-- ==== Sys2Proof/Word.lean ====
section
/-! DEFINITION. The word types: the 8-bit byte and the 16-bit word (spec/00_scope.md R8, R10). -/

namespace Sys2Proof

/-- The addressable unit and the general registers' width (00 R8). -/
abbrev Byte := BitVec 8

/-- The width of PC, SP, addresses and the register pairs (00 R8). -/
abbrev Word := BitVec 16

end Sys2Proof
end

