-- ==== Sys2Proof/Machine/Bits.lean ====
section
/-! DEFINITION. Slicing, joining and extending bit vectors (spec/00_scope.md R10, R11). -/

namespace Sys2Proof

/-- `v[15:8]`. -/
def hiByte (v : Word) : Byte := v.extractLsb' 8 8

/-- `v[7:0]`. -/
def loByte (v : Word) : Byte := v.extractLsb' 0 8

/-- `{hi, lo}`: the 16-bit value, high byte first (00 R10). -/
def joinBytes (hi lo : Byte) : Word := hi ++ lo

/-- `sext_16` (00 R11). -/
def sext16 (v : Byte) : Word := v.signExtend 16

/-- `zext_16` (00 R11). -/
def zext16 (v : Byte) : Word := v.setWidth 16

/-- The field of `n` bits of `v` from bit `lo` up, as a number (00 R10). -/
def bitField {w : Nat} (v : BitVec w) (lo n : Nat) : Nat := v.toNat / 2 ^ lo % 2 ^ n

end Sys2Proof
end

