-- ==== Sys2Proof/WellFormed.lean ====
section
/-! DEFINITION. Which terms of `Instr` are instructions. No field of an encoding is reserved
(spec/30_encoding.md R158), and the operand types admit exactly the values an encoding holds; the one
term that is no instruction is the bare prefix (40_cpu_step_and_control.md R186). -/

namespace Sys2Proof

/-- The check: every row but the prefix row is an instruction by itself (40 R186). -/
def Instr.wellFormed (i : Instr) : Bool :=
  match i with
  | .prefixCb _ => false
  | _ => true

end Sys2Proof
end

