-- ==== Sys2Proof/Config.lean ====
section
/-! DEFINITION. What an instance of the machine fixes (spec/00_scope.md R9) and the one free value of
the model, the byte the joypad port gives (20_memory.md R104). -/

namespace Sys2Proof.Config

/-- `TIMER_REVISION` (00 R3, R9; 10 R53): the order of the timer's enable gate and its edge detector. -/
inductive TimerRevision where
  | dmg
  | cgb
deriving DecidableEq, Repr

/-- The parameters a program can tell apart and no rule fixes (00 R9; 92 D9, D35). State holds one value
of this type, so that a statement about every state is a statement about every instance; no rule
writes it (10 R53). Log 1. -/
structure Params where
  timerRevision : TimerRevision
  /-- `DI_CANCELS_EI`: whether DI discards the enable scheduled by the EI just before it (40 R184). -/
  diCancelsEi : Bool
deriving DecidableEq, Repr

/-- The instance at `State.reset`: the setting of the spec's own test vectors (95, conventions).
DESIGN CHOICE, unsafe: log 1. -/
def Params.default : Params := { timerRevision := .dmg, diCancelsEi := false }

/-- `RESET_REGS` (00 R9, 10 R85): the CPU registers after reset. `f` gives only F[7:4]. -/
structure ResetRegs where
  a : Byte
  f : Byte
  b : Byte
  c : Byte
  d : Byte
  e : Byte
  h : Byte
  l : Byte
  sp : Word
  pc : Word
deriving DecidableEq, Repr

/-- The default 10 R85 suggests: what the real console's boot program leaves. PRESUMED, unsafe: log 2. -/
def ResetRegs.default : ResetRegs :=
  { a := 0x01#8, f := 0xB0#8, b := 0x00#8, c := 0x13#8, d := 0x00#8, e := 0xD8#8, h := 0x01#8, l := 0x4D#8,
    sp := 0xFFFE#16, pc := 0x0100#16 }

/-- The byte the n-th read of the joypad port gives (20 R104; 93 U11: any value per read). A free value:
it has no body, so no proof can see it. Log 4, safe. -/
opaque joypadByte : Nat → Byte

end Sys2Proof.Config
end

