-- ==== Sys2Proof/Machine/State.lean ====
section
/-! DEFINITION. The state of the machine as plain data: every piece of state of spec/10_state.md, the
reasons a step could stop, and the state after reset (10_state.md R80 to R88). -/

namespace Sys2Proof.Machine

/-- F[7:4] (10 R35). F[3:0] reads 0 in every state and discards writes (R36), so it has no storage: log 14. -/
structure Flags where
  z : Bool
  n : Bool
  h : Bool
  c : Bool
deriving DecidableEq, Repr

/-- The CPU's registers and latches (10 R30 to R42). -/
structure Cpu where
  a : Byte
  flags : Flags
  b : Byte
  c : Byte
  d : Byte
  e : Byte
  h : Byte
  l : Byte
  sp : Word
  pc : Word
  /-- `IME` (10 R38). -/
  ime : Bool
  /-- `ime_scheduled` (10 R39). -/
  imeScheduled : Bool
  /-- `halted` (10 R40). -/
  halted : Bool
  /-- `stopped` (10 R41): set by STOP, read by nothing. -/
  stopped : Bool
  /-- `halt_bug` (10 R42). -/
  haltBug : Bool
  /-- The MODEL's own: the step-local `en` of 40 R174, which DI may clear (R184). False between steps. Log 6. -/
  en : Bool
  /-- The MODEL's own: the tick count the last CPU step reported (40 R178). Log 6. -/
  ticks : Nat
deriving DecidableEq, Repr

/-- The sequencer's states (10 R45). -/
inductive DispatchState where
  | idle
  | nop0
  | nop1
  | pcStore0
  | pcStore1
  | pcSet
deriving DecidableEq, Repr

/-- The interrupt controller (10 R43 to R45): IF, IE and the sequencer. -/
structure Irq where
  request : BitVec 5
  enable : BitVec 5
  dispatch : DispatchState
deriving DecidableEq, Repr

/-- The TIMA overflow states (10 R52). -/
inductive OverflowState where
  | counting
  | willOverflow
  | justOverflowed
deriving DecidableEq, Repr

/-- The timer (10 R46 to R52). DIV is `counter`'s high byte and has no storage (R47). -/
structure Timer where
  counter : Word
  tima : Byte
  tma : Byte
  tacEnable : Bool
  tacSelect : BitVec 2
  lastBit : Bool
  overflow : OverflowState
deriving DecidableEq, Repr

/-- The PPU's modes (10 R54). -/
inductive PpuMode where
  | oamScan
  | drawing
  | hBlank
  | vBlank
deriving DecidableEq, Repr

/-- The PPU (10 R54 to R58, R65 to R68, R72). `slots` lists the OAM indexes of the slots that are not
empty, in slot order: slot j is `slots[j]?` (log 11). `fb` lists the pixels that are not colour 0, keyed by
160 * line + x, in canonical form (log 12). -/
structure Ppu where
  mode : PpuMode
  dot : Nat
  line : Nat
  x : Nat
  slots : List (Fin 40)
  lcdc : Byte
  stat : Byte
  scy : Byte
  scx : Byte
  bgp : Byte
  fb : List (Nat × BitVec 2)
deriving DecidableEq, Repr

/-- ROM, VRAM, WRAM, OAM and HRAM (10 R59 to R64) as one list of address and byte pairs, keyed by the bus
address of the storage, in the canonical form of `Memory.wf`. -/
abbrev Memory := List Host.Cell

/-- The reports of the diagnostics channel (60 R356). -/
inductive Report where
  | undefinedOpcode (op : Byte) (pc : Word)
  | unmappedRead (a : Word)
  | unmappedWrite (a : Word) (v : Byte)
  | dmaRefused (v : Byte)
deriving DecidableEq, Repr

/-- The MODEL's own: what passes between the core and the host inside a step. The traces list the newest
first and nothing reads them (60 R355; 70 R466). Logs 4 and 5. -/
structure HostIo where
  /-- How many times `JoypadRead` was called; the free value `Config.joypadByte` is applied to it. -/
  joypadReads : Nat
  /-- The values given to `JoypadWrite`. -/
  joypadWrites : List Byte
  /-- The reports of `Diag`. -/
  diag : List Report
deriving DecidableEq, Repr

/-- The whole machine. `cfg` holds the instance's parameters (00 R9), which no rule writes: log 1. -/
structure State where
  cpu : Cpu
  irq : Irq
  timer : Timer
  ppu : Ppu
  mem : Memory
  io : HostIo
  cfg : Config.Params
deriving DecidableEq, Repr

/-- The reasons a step stops with a fault: none. No step fails (40 R179), and no instruction traps (60
R350). Nothing raises it; safe. Log 17. -/
inductive Fault where
deriving DecidableEq, Repr

/-- The reasons a step is refused. -/
inductive Refusal where
  /-- Raised by an arm of `exec` whose instruction has no meaning yet; no arm is left so. Safe. -/
  | notModelled (mnemonic : String)
  /-- Raised by the fetch when the decoder finds fewer bytes than the opcode needs; the fetch reads as many
  as it needs, so no state reaches it. Safe. Log 17. -/
  | truncatedFetch
deriving DecidableEq, Repr

/-- The machine created with its parameters (10 R80 to R88; 70 R450, R451): the instance, the CPU registers
`RESET_REGS`, and the contents of ROM and of `RAM_INIT` in one memory. -/
def State.resetWith (cfg : Config.Params) (r : Config.ResetRegs) (mem : Memory) : State :=
  { cpu := { a := r.a,
             flags := { z := r.f.getLsbD 7, n := r.f.getLsbD 6, h := r.f.getLsbD 5, c := r.f.getLsbD 4 },
             b := r.b, c := r.c, d := r.d, e := r.e, h := r.h, l := r.l, sp := r.sp, pc := r.pc,
             ime := false, imeScheduled := false, halted := false, stopped := false, haltBug := false,
             en := false, ticks := 0 },
    irq := { request := 0#5, enable := 0#5, dispatch := .idle },
    timer := { counter := 0#16, tima := 0#8, tma := 0#8, tacEnable := false, tacSelect := 0#2, lastBit := false,
               overflow := .counting },
    ppu := { mode := .oamScan, dot := 0, line := 0, x := 0, slots := [], lcdc := 0#8, stat := 0#8, scy := 0#8,
             scx := 0#8, bgp := 0#8, fb := [] },
    mem := mem,
    io := { joypadReads := 0, joypadWrites := [], diag := [] },
    cfg := cfg }

/-- The machine right after reset: the default instance and registers, memory with nothing listed. The
values the spec leaves open are logs 1, 2 and 3. -/
def State.reset : State := State.resetWith Config.Params.default Config.ResetRegs.default []

end Sys2Proof.Machine
end

