-- ==== Sys2Proof/Machine/Flags.lean ====
section
/-! DEFINITION. Every arithmetic and flag computation: the 8-bit functions of spec/43_alu_8bit.md R240,
DAA (R269), the 16-bit sums of 44_alu_16bit.md R280 and R284, the rotates and shifts of
45_rotates_shifts_bits.md R290 to R294, and the condition test of 46_control_flow.md R341. -/

namespace Sys2Proof.Machine

/-- F as a byte: Z N H C in bits 7 to 4, the low nibble 0 (10 R35, R36). -/
def Flags.toByte (f : Flags) : Byte :=
  BitVec.ofBool f.z ++ BitVec.ofBool f.n ++ BitVec.ofBool f.h ++ BitVec.ofBool f.c ++ 0#4

/-- The flags a byte written to F leaves; its low nibble is discarded (10 R36). -/
def Flags.ofByte (v : Byte) : Flags :=
  { z := v.getLsbD 7, n := v.getLsbD 6, h := v.getLsbD 5, c := v.getLsbD 4 }

/-- `zf(r)` (43 R240). -/
def zf (r : Byte) : Bool := decide (r = 0#8)

/-- `Add8` (43 R240): result, carry out of bit 3, carry out of bit 7. -/
def add8 (a b : Byte) (cin : Bool) : Byte × Bool × Bool :=
  (BitVec.ofNat 8 (a.toNat + b.toNat + cin.toNat),
   decide (0x0F < a.toNat % 16 + b.toNat % 16 + cin.toNat),
   decide (0xFF < a.toNat + b.toNat + cin.toNat))

/-- `Sub8` (43 R240): result, borrow into bit 4, borrow out of bit 7. -/
def sub8 (a b : Byte) (cin : Bool) : Byte × Bool × Bool :=
  (BitVec.ofInt 8 ((a.toNat : Int) - (b.toNat : Int) - (cin.toNat : Int)),
   decide (a.toNat % 16 < b.toNat % 16 + cin.toNat),
   decide (a.toNat < b.toNat + cin.toNat))

/-- The eight operations on A (43 R241 to R264): the value A is left with, and the flags. `cin` is flag.C. -/
def aluResult (op : AluOp) (a v : Byte) (cin : Bool) : Byte × Flags :=
  match op with
  | .add => let (r, h, c) := add8 a v false; (r, { z := zf r, n := false, h := h, c := c })
  | .adc => let (r, h, c) := add8 a v cin; (r, { z := zf r, n := false, h := h, c := c })
  | .sub => let (r, h, c) := sub8 a v false; (r, { z := zf r, n := true, h := h, c := c })
  | .sbc => let (r, h, c) := sub8 a v cin; (r, { z := zf r, n := true, h := h, c := c })
  | .and => (a &&& v, { z := zf (a &&& v), n := false, h := true, c := false })
  | .xor => (a ^^^ v, { z := zf (a ^^^ v), n := false, h := false, c := false })
  | .or => (a ||| v, { z := zf (a ||| v), n := false, h := false, c := false })
  | .cp => let (r, h, c) := sub8 a v false; (a, { z := zf r, n := true, h := h, c := c })

/-- The 8-bit increment (43 R265): result and flags, C kept. -/
def inc8 (v : Byte) (f : Flags) : Byte × Flags :=
  let r := v + 1#8
  (r, { z := zf r, n := false, h := decide (v.toNat % 16 = 0xF), c := f.c })

/-- The 8-bit decrement (43 R267): result and flags, C kept. -/
def dec8 (v : Byte) (f : Flags) : Byte × Flags :=
  let r := v - 1#8
  (r, { z := zf r, n := true, h := decide (v.toNat % 16 = 0x0), c := f.c })

/-- The two corrections after an addition (43 R269): the value and the carry. -/
def daaAdd (a : Byte) (f : Flags) : Byte × Bool :=
  let (a1, c) := if f.c || decide (0x99 < a.toNat) then (a + 0x60#8, true) else (a, f.c)
  (if f.h || decide (9 < a1.toNat % 16) then a1 + 0x06#8 else a1, c)

/-- The two corrections after a subtraction (43 R269): the value and the carry, which is kept. -/
def daaSub (a : Byte) (f : Flags) : Byte × Bool :=
  let a1 := if f.c then a - 0x60#8 else a
  (if f.h then a1 - 0x06#8 else a1, f.c)

/-- DAA (43 R269): the value and the flags, N kept and H cleared. -/
def daaResult (a : Byte) (f : Flags) : Byte × Flags :=
  let (r, c) := if f.n then daaSub a f else daaAdd a f
  (r, { z := zf r, n := f.n, h := false, c := c })

/-- `ADD HL,rr` (44 R280): the sum and the flags; H out of bit 11, C out of bit 15, Z kept. -/
def addHl16 (a b : Word) (f : Flags) : Word × Flags :=
  (a + b,
   { z := f.z, n := false, h := decide (0x0FFF < a.toNat % 4096 + b.toNat % 4096),
     c := decide (0xFFFF < a.toNat + b.toNat) })

/-- `SpPlusE` (44 R284) with the flags of 44 R283 and 42 R233: the signed sum, H and C of the unsigned
addition of SP's low byte and the offset's byte. -/
def spPlusE (sp : Word) (e : Byte) : Word × Flags :=
  (sp + sext16 e,
   { z := false, n := false, h := decide (0x0F < sp.toNat % 16 + e.toNat % 16),
     c := decide (0xFF < sp.toNat % 256 + e.toNat) })

/-- The eight rotate and shift operations of a byte and the old carry (45 R294): result and carry out. -/
def rotResult (op : RotOp) (v : Byte) (cy : Bool) : Byte × Bool :=
  match op with
  | .rlc => (v.extractLsb' 0 7 ++ v.extractLsb' 7 1, v.getLsbD 7)
  | .rrc => (v.extractLsb' 0 1 ++ v.extractLsb' 1 7, v.getLsbD 0)
  | .rl => (v.extractLsb' 0 7 ++ BitVec.ofBool cy, v.getLsbD 7)
  | .rr => (BitVec.ofBool cy ++ v.extractLsb' 1 7, v.getLsbD 0)
  | .sla => (v.extractLsb' 0 7 ++ 0#1, v.getLsbD 7)
  | .sra => (v.extractLsb' 7 1 ++ v.extractLsb' 1 7, v.getLsbD 0)
  | .swap => (v.extractLsb' 0 4 ++ v.extractLsb' 4 4, false)
  | .srl => (0#1 ++ v.extractLsb' 1 7, v.getLsbD 0)

/-- The flags of the extended rotates and shifts (45 R295 to R310). -/
def rotFlags (r : Byte) (c : Bool) : Flags := { z := zf r, n := false, h := false, c := c }

/-- The flags of the four accumulator rotates, which always clear Z (45 R290 to R293). -/
def rotAFlags (c : Bool) : Flags := { z := false, n := false, h := false, c := c }

/-- The flags of BIT (45 R311): Z the complement of the tested bit, C kept. -/
def bitTestFlags (v : Byte) (b : Fin 8) (f : Flags) : Flags :=
  { z := !v.getLsbD b.val, n := false, h := true, c := f.c }

/-- RES (45 R313): the byte with bit `b` cleared. -/
def clearBit (v : Byte) (b : Fin 8) : Byte := v &&& ~~~(1#8 <<< b.val)

/-- SET (45 R315): the byte with bit `b` set. -/
def setBit (v : Byte) (b : Fin 8) : Byte := v ||| (1#8 <<< b.val)

/-- `Cond(cc)` (46 R341). -/
def condHolds (cc : Cond) (f : Flags) : Bool :=
  match cc with
  | .nz => !f.z
  | .z => f.z
  | .nc => !f.c
  | .c => f.c

end Sys2Proof.Machine
end

