-- ==== Sys2Proof/Machine/Memory.lean ====
section
/-! DEFINITION. Sparse arrays in one canonical form: reading, writing and the form itself. Memory
(spec/10_state.md R59 to R64) and the frame buffer (R72) are both held so. -/

namespace Sys2Proof.Machine

/-- The entry at key `k`, or `d` where none is listed. -/
def sparseRead {α : Type} (d : α) : List (Nat × α) → Nat → α
  | [], _ => d
  | (k', v) :: m, k => if k = k' then v else sparseRead d m k

/-- `m` with key `k` holding `v`. Writing what an unlisted key reads as removes the entry. -/
def sparseWrite {α : Type} [DecidableEq α] (d : α) : List (Nat × α) → Nat → α → List (Nat × α)
  | [], k, v => if v = d then [] else [(k, v)]
  | (k', v') :: m, k, v =>
    if k < k' then (if v = d then (k', v') :: m else (k, v) :: (k', v') :: m)
    else if k = k' then (if v = d then m else (k, v) :: m)
    else (k', v') :: sparseWrite d m k v

/-- The canonical form from key `lo` up: keys strictly rising, no entry equal to `d`. -/
def sparseWfFrom {α : Type} [DecidableEq α] (d : α) : Nat → List (Nat × α) → Bool
  | _, [] => true
  | lo, (k, v) :: m => decide (lo ≤ k) && !decide (v = d) && sparseWfFrom d (k + 1) m

/-- What a byte of ROM or RAM that nothing has written reads as (`RAM_INIT` and `ROM` are open, 00 R9).
DESIGN CHOICE, unsafe: log 3. -/
def Memory.unlisted : Byte := 0x00#8

/-- The bus addresses that have storage of their own: ROM, VRAM, WRAM, OAM and HRAM (10 R60 to R64). -/
def Memory.backed (a : Nat) : Bool :=
  decide (a < 0xA000) || (decide (0xC000 ≤ a) && decide (a < 0xE000)) ||
    (decide (0xFE00 ≤ a) && decide (a < 0xFEA0)) || (decide (0xFF80 ≤ a) && decide (a < 0xFFFF))

/-- The byte stored at `a`. -/
def Memory.read (m : Memory) (a : Nat) : Byte := sparseRead Memory.unlisted m a

/-- Memory with `v` stored at `a`; an address without storage keeps nothing. -/
def Memory.write (m : Memory) (a : Nat) (v : Byte) : Memory :=
  if Memory.backed a then sparseWrite Memory.unlisted m a v else m

/-- The canonical form of memory: keys strictly rising, none listed with what an unlisted address reads
as, and only addresses that have storage. -/
def Memory.wf (m : Memory) : Bool :=
  sparseWfFrom Memory.unlisted 0 m && m.all (fun cell => Memory.backed cell.1)

/-- The colour index at `line`, `x` of the frame buffer (10 R72). -/
def Ppu.pixelAt (p : Ppu) (line x : Nat) : BitVec 2 := sparseRead 0#2 p.fb (160 * line + x)

/-- The frame buffer's canonical form: as memory's, with keys inside 144 lines of 160. -/
def fbWf (fb : List (Nat × BitVec 2)) : Bool :=
  sparseWfFrom 0#2 0 fb && fb.all (fun cell => decide (cell.1 < 23040))

end Sys2Proof.Machine
end

