-- ==== Sys2Proof/Machine/Ops.lean ====
section
/-! DEFINITION. The shared operations: the diagnostics channel, requests, the bus with its side effects
(spec/20_memory.md), the stack, where an instruction leaves PC, and taking an interrupt and returning
from one (60_exceptions.md R357 to R375). -/

namespace Sys2Proof.Machine

/-- What one step answers. -/
abbrev Result := Host.Outcome State Fault Refusal

/-! ## Diagnostics -/

/-- `Diag` (60 R355): the report goes to the trace, which nothing reads. -/
def State.report (s : State) (r : Report) : State :=
  { s with io := { s.io with diag := r :: s.io.diag } }

/-! ## Interrupt sources and requests -/

/-- The five sources in priority order (60 R357). -/
inductive Interrupt where
  | vBlank
  | lcdStat
  | timer
  | serial
  | joypad
deriving DecidableEq, Repr

/-- A source's bit position in IF and IE (60 R357). -/
def Interrupt.index (k : Interrupt) : Nat :=
  match k with
  | .vBlank => 0
  | .lcdStat => 1
  | .timer => 2
  | .serial => 3
  | .joypad => 4

/-- A source's vector, `0x0040 + 8 k` (60 R368, R369). -/
def Interrupt.vector (k : Interrupt) : Word := BitVec.ofNat 16 (0x0040 + 8 * k.index)

/-- A mask with a source's bit alone. -/
def Interrupt.mask (k : Interrupt) : BitVec 5 := 1#5 <<< k.index

/-- `Trigger(k)` (60 R360): ORs the bit into IF, whatever IE and IME hold. -/
def State.trigger (s : State) (k : Interrupt) : State :=
  { s with irq := { s.irq with request := s.irq.request ||| k.mask } }

/-- `IF & IE` (60 R358). -/
def Irq.pendingMask (q : Irq) : BitVec 5 := q.request &&& q.enable

/-- `pending` (60 R358): some requested interrupt is enabled, whatever IME holds. -/
def Irq.pending (q : Irq) : Bool := decide (q.pendingMask ≠ 0#5)

/-- The least index set in a mask: the highest priority (60 R368, R373). -/
def highestPriority (m : BitVec 5) : Option Interrupt :=
  if m.getLsbD 0 then some .vBlank
  else if m.getLsbD 1 then some .lcdStat
  else if m.getLsbD 2 then some .timer
  else if m.getLsbD 3 then some .serial
  else if m.getLsbD 4 then some .joypad
  else none

/-! ## The bus -/

/-- Who answers a bus address (20 R95). A unit with storage carries the key of its byte in memory. -/
inductive BusUnit where
  | rom (key : Nat)
  | vram (key : Nat)
  | wram (key : Nat)
  | oam (key : Nat)
  | hram (key : Nat)
  | joypad
  | div
  | tima
  | tma
  | tac
  | ifReg
  | lcdc
  | stat
  | scy
  | scx
  | ly
  | dma
  | bgp
  | ie
  | unmapped
deriving DecidableEq, Repr

/-- The handled addresses of the I/O page 0xFF00 to 0xFF7F (10 R74); 0xFF45 is unmapped (10 R71). -/
def ioDecode (n : Nat) : BusUnit :=
  if n = 0xFF00 then .joypad
  else if n = 0xFF04 then .div
  else if n = 0xFF05 then .tima
  else if n = 0xFF06 then .tma
  else if n = 0xFF07 then .tac
  else if n = 0xFF0F then .ifReg
  else if n = 0xFF40 then .lcdc
  else if n = 0xFF41 then .stat
  else if n = 0xFF42 then .scy
  else if n = 0xFF43 then .scx
  else if n = 0xFF44 then .ly
  else if n = 0xFF46 then .dma
  else if n = 0xFF47 then .bgp
  else .unmapped

/-- The address map (20 R95); an echo address is the work RAM byte 0x2000 below it (R100). -/
def busDecode (a : Word) : BusUnit :=
  let n := a.toNat
  if n < 0x8000 then .rom n
  else if n < 0xA000 then .vram n
  else if n < 0xC000 then .unmapped
  else if n < 0xE000 then .wram n
  else if n < 0xFE00 then .wram (n - 0x2000)
  else if n < 0xFEA0 then .oam n
  else if n < 0xFF00 then .unmapped
  else if n < 0xFF80 then ioDecode n
  else if n < 0xFFFF then .hram n
  else .ie

/-- TAC as read (10 R50). -/
def Timer.tacByte (t : Timer) : Byte := 0b11111#5 ++ BitVec.ofBool t.tacEnable ++ t.tacSelect

/-- The byte a bus read of `a` gives (20 R96 to R110), apart from what the read does. -/
def busValue (s : State) (a : Word) : Byte :=
  match busDecode a with
  | .rom k => s.mem.read k
  | .vram k => if s.ppu.mode = .drawing then 0xFF#8 else s.mem.read k
  | .wram k => s.mem.read k
  | .oam k => s.mem.read k
  | .hram k => s.mem.read k
  | .joypad => Config.joypadByte s.io.joypadReads
  | .div => hiByte s.timer.counter
  | .tima => s.timer.tima
  | .tma => s.timer.tma
  | .tac => s.timer.tacByte
  | .ifReg => 0b111#3 ++ s.irq.request
  | .lcdc => s.ppu.lcdc
  | .stat => s.ppu.stat
  | .scy => s.ppu.scy
  | .scx => s.ppu.scx
  | .ly => BitVec.ofNat 8 s.ppu.line
  | .dma => 0xFF#8
  | .bgp => s.ppu.bgp
  | .ie => 0b111#3 ++ s.irq.enable
  | .unmapped => 0xFF#8

/-- What a bus read of `a` does: a joypad read is one call of the host (20 R104), a read of an unmapped
address is reported (R108), and no other read does anything (R117). -/
def busReadEffect (s : State) (a : Word) : State :=
  match busDecode a with
  | .joypad => { s with io := { s.io with joypadReads := s.io.joypadReads + 1 } }
  | .unmapped => s.report (.unmappedRead a)
  | _ => s

/-- `BusRead(a)` (00 R13). -/
def busRead (s : State) (a : Word) : Byte × State := (busValue s a, busReadEffect s a)

/-- The OAM copy (20 R113): `n` bytes still to copy, `i` done. Each byte comes by a bus read. -/
def dmaCopy (page : Byte) : Nat → Nat → State → State
  | 0, _, s => s
  | n + 1, i, s =>
    let (v, s1) := busRead s (joinBytes page 0#8 + BitVec.ofNat 16 i)
    dmaCopy page n (i + 1) { s1 with mem := s1.mem.write (0xFE00 + i) v }

/-- A write of `v` to 0xFF46 (20 R112, R113): refused and reported in OamScan and Drawing, else 160 bytes
copied at once. -/
def dmaRequest (s : State) (v : Byte) : State :=
  match s.ppu.mode with
  | .oamScan => s.report (.dmaRefused v)
  | .drawing => s.report (.dmaRefused v)
  | .hBlank => dmaCopy v 160 0 s
  | .vBlank => dmaCopy v 160 0 s

/-- `BusWrite(a, v)` (20 R96 to R112). -/
def busWrite (s : State) (a : Word) (v : Byte) : State :=
  match busDecode a with
  | .rom _ => s
  | .vram k => { s with mem := s.mem.write k v }
  | .wram k => { s with mem := s.mem.write k v }
  | .oam k => { s with mem := s.mem.write k v }
  | .hram k => { s with mem := s.mem.write k v }
  | .joypad => { s with io := { s.io with joypadWrites := v :: s.io.joypadWrites } }
  | .div => { s with timer := { s.timer with counter := 0#16 } }
  | .tima => { s with timer := { s.timer with tima := v } }
  | .tma => { s with timer := { s.timer with tma := v, overflow := .counting } }
  | .tac => { s with timer := { s.timer with tacEnable := v.getLsbD 2, tacSelect := v.extractLsb' 0 2 } }
  | .ifReg => { s with irq := { s.irq with request := v.extractLsb' 0 5 } }
  | .lcdc => { s with ppu := { s.ppu with lcdc := v } }
  | .stat => { s with ppu := { s.ppu with stat := v } }
  | .scy => { s with ppu := { s.ppu with scy := v } }
  | .scx => { s with ppu := { s.ppu with scx := v } }
  | .ly => s
  | .dma => dmaRequest s v
  | .bgp => { s with ppu := { s.ppu with bgp := v } }
  | .ie => { s with irq := { s.irq with enable := v.extractLsb' 0 5 } }
  | .unmapped => s.report (.unmappedWrite a v)

/-- `MemWrite(a, 2, v)` (20 R91): the low byte at `a` first, then the high one at `a + 1`. -/
def memWrite16 (s : State) (a : Word) (v : Word) : State :=
  busWrite (busWrite s a (loByte v)) (a + 1#16) (hiByte v)

/-- A byte placed in storage from outside the machine: the loader of ROM, or a test's harness (70 R451).
An echo address is its work RAM byte; an address without storage keeps nothing. -/
def State.place (s : State) (a : Word) (v : Byte) : State :=
  match busDecode a with
  | .rom k => { s with mem := s.mem.write k v }
  | .vram k => { s with mem := s.mem.write k v }
  | .wram k => { s with mem := s.mem.write k v }
  | .oam k => { s with mem := s.mem.write k v }
  | .hram k => { s with mem := s.mem.write k v }
  | _ => s

/-! ## SP, PC and the tick report -/

/-- SP set. -/
def State.setSp (s : State) (v : Word) : State := { s with cpu := { s.cpu with sp := v } }

/-- One pushed byte: SP down by one, then the write (10 R33). -/
def pushByte (s : State) (v : Byte) : State :=
  busWrite (s.setSp (s.cpu.sp - 1#16)) (s.cpu.sp - 1#16) v

/-- One popped byte: the read, then SP up by one (10 R33). -/
def popByte (s : State) : Byte × State :=
  let (v, s1) := busRead s s.cpu.sp
  (v, s1.setSp (s.cpu.sp + 1#16))

/-- `Push16(v)` (00 R13): the high byte first. -/
def push16 (s : State) (v : Word) : State := pushByte (pushByte s (hiByte v)) (loByte v)

/-- `Pop16()` (00 R13): the low byte first. -/
def pop16 (s : State) : Word × State :=
  let (lo, s1) := popByte s
  let (hi, s2) := popByte s1
  (joinBytes hi lo, s2)

/-- An instruction that does not assign PC: PC moves past its `len` bytes and it reports `ticks`
(40 R176, R178). -/
def State.advance (s : State) (len : Word) (ticks : Nat) : State :=
  { s with cpu := { s.cpu with pc := s.cpu.pc + len, ticks := ticks } }

/-- An instruction that assigns PC (40 R176, R178). -/
def State.jump (s : State) (target : Word) (ticks : Nat) : State :=
  { s with cpu := { s.cpu with pc := target, ticks := ticks } }

/-- A step that reports `ticks` and leaves PC (40 R171 to R173). -/
def State.spend (s : State) (ticks : Nat) : State := { s with cpu := { s.cpu with ticks := ticks } }

/-! ## Taking an interrupt and returning from one -/

/-- The sequencer moved to `d`. -/
def State.setDispatch (s : State) (d : DispatchState) : State := { s with irq := { s.irq with dispatch := d } }

/-- State Idle (60 R363): with IME set and an interrupt pending, dispatch begins and IME is cleared. -/
def beginDispatch (s : State) : State :=
  if s.cpu.ime && s.irq.pending then
    { s with cpu := { s.cpu with ime := false }, irq := { s.irq with dispatch := .nop0 } }
  else s

/-- State PcSet (60 R368): the highest-priority pending bit, chosen now, is cleared and PC goes to its
vector; with none left PC goes to 0. -/
def enterHandler (s : State) : State :=
  match highestPriority s.irq.pendingMask with
  | some k =>
    { s with cpu := { s.cpu with pc := k.vector },
             irq := { s.irq with request := s.irq.request &&& ~~~k.mask, dispatch := .idle } }
  | none => { s with cpu := { s.cpu with pc := 0x0000#16 }, irq := { s.irq with dispatch := .idle } }

/-- `SequencerStep()` (60 R362): taking an interrupt is the six transitions of this function, one a step. It
saves PC alone, high byte then low (R366, R367). -/
def sequencerStep (s : State) : State :=
  match s.irq.dispatch with
  | .idle => beginDispatch s
  | .nop0 => s.setDispatch .nop1
  | .nop1 => s.setDispatch .pcStore0
  | .pcStore0 => (pushByte s (hiByte s.cpu.pc)).setDispatch .pcStore1
  | .pcStore1 => (pushByte s (loByte s.cpu.pc)).setDispatch .pcSet
  | .pcSet => enterHandler s

/-- The return from an interrupt (46 R340): PC is popped and IME set at once; nothing else is restored
(60 R375). -/
def returnFromInterrupt (s : State) : State :=
  let (target, s1) := pop16 s
  ({ s1 with cpu := { s1.cpu with ime := true } }).jump target 16

end Sys2Proof.Machine
end

