-- ==== Sys2Proof/Machine/Operands.lean ====
section
/-! DEFINITION. The operand forms: the byte registers, the pair views (spec/10_state.md R30 to R33) and
the effective addresses of the loads (41_loads_8bit.md R219). -/

namespace Sys2Proof.Machine

/-- The value of `r8[i]` (00 R12). -/
def Cpu.reg (c : Cpu) (r : Reg8) : Byte :=
  match r with
  | .b => c.b
  | .c => c.c
  | .d => c.d
  | .e => c.e
  | .h => c.h
  | .l => c.l
  | .a => c.a

/-- `r8[i] <- v`. -/
def Cpu.setReg (c : Cpu) (r : Reg8) (v : Byte) : Cpu :=
  match r with
  | .b => { c with b := v }
  | .c => { c with c := v }
  | .d => { c with d := v }
  | .e => { c with e := v }
  | .h => { c with h := v }
  | .l => { c with l := v }
  | .a => { c with a := v }

/-- BC (10 R31). -/
def Cpu.bc (c : Cpu) : Word := joinBytes c.b c.c

/-- DE (10 R31). -/
def Cpu.de (c : Cpu) : Word := joinBytes c.d c.e

/-- HL (10 R31). -/
def Cpu.hl (c : Cpu) : Word := joinBytes c.h c.l

/-- AF (10 R31). -/
def Cpu.af (c : Cpu) : Word := joinBytes c.a c.flags.toByte

/-- `HL <- v`. -/
def Cpu.setHl (c : Cpu) (v : Word) : Cpu := { c with h := hiByte v, l := loByte v }

/-- The value of `rp[i]` (00 R12). -/
def Cpu.pair (c : Cpu) (p : Pair) : Word :=
  match p with
  | .bc => c.bc
  | .de => c.de
  | .hl => c.hl
  | .sp => c.sp

/-- `rp[i] <- v` (10 R31): the high byte to the first-named register. -/
def Cpu.setPair (c : Cpu) (p : Pair) (v : Word) : Cpu :=
  match p with
  | .bc => { c with b := hiByte v, c := loByte v }
  | .de => { c with d := hiByte v, e := loByte v }
  | .hl => c.setHl v
  | .sp => { c with sp := v }

/-- The value of `rp2[i]` (00 R12). -/
def Cpu.stackPair (c : Cpu) (p : StackPair) : Word :=
  match p with
  | .bc => c.bc
  | .de => c.de
  | .hl => c.hl
  | .af => c.af

/-- `rp2[i] <- v`; a write of AF discards F's low nibble (10 R31, R36). -/
def Cpu.setStackPair (c : Cpu) (p : StackPair) (v : Word) : Cpu :=
  match p with
  | .bc => { c with b := hiByte v, c := loByte v }
  | .de => { c with d := hiByte v, e := loByte v }
  | .hl => c.setHl v
  | .af => { c with a := hiByte v, flags := Flags.ofByte (loByte v) }

/-- A change of the CPU's registers alone. -/
def State.mapCpu (s : State) (f : Cpu → Cpu) : State := { s with cpu := f s.cpu }

/-- `(HL)` read: `BusRead(HL)`. -/
def readHl (s : State) : Byte × State := busRead s s.cpu.hl

/-- `(HL)` written: `BusWrite(HL, v)`. -/
def writeHl (s : State) (v : Byte) : State := busWrite s s.cpu.hl v

/-- The zero-page address `0xFF00 + offset` (30 R144, 41 R219). -/
def zeroPage (offset : Byte) : Word := 0xFF00#16 + zext16 offset

/-- HL stepped after the access of an `(HL+)` or `(HL-)` form (41 R219). -/
def State.stepHl (s : State) (delta : Word) : State := s.mapCpu (fun c => c.setHl (c.hl + delta))

end Sys2Proof.Machine
end

