-- ==== Sys2Proof/Machine/Alu16.lean ====
section
/-! DEFINITION. 16-bit arithmetic (spec/44_alu_16bit.md R280 to R285). -/

namespace Sys2Proof.Machine

/-! ## Shared operations -/

/-- `ADD HL,rr` (44 R280). -/
def addHlPair (p : Pair) (s : State) : State :=
  let (r, f) := addHl16 s.cpu.hl (s.cpu.pair p) s.cpu.flags
  (s.mapCpu (fun c => { c.setHl r with flags := f })).advance 1#16 8

/-- `INC rr` (44 R281). -/
def incPair (p : Pair) (s : State) : State := (s.mapCpu (fun c => c.setPair p (c.pair p + 1#16))).advance 1#16 8

/-- `DEC rr` (44 R282). -/
def decPair (p : Pair) (s : State) : State := (s.mapCpu (fun c => c.setPair p (c.pair p - 1#16))).advance 1#16 8

/-- `ADD SP,e` (44 R283). -/
def addSpOffset (e : Byte) (s : State) : State :=
  let (r, f) := spPlusE s.cpu.sp e
  (s.mapCpu (fun c => { c with sp := r, flags := f })).advance 2#16 16

/-! ## One meaning an instruction -/

/-- `INC BC` (44 R281). -/
def execIncBc (s : State) : Result := .next (incPair .bc s)

/-- `ADD HL,BC` (44 R280). -/
def execAddHlBc (s : State) : Result := .next (addHlPair .bc s)

/-- `DEC BC` (44 R282). -/
def execDecBc (s : State) : Result := .next (decPair .bc s)

/-- `INC DE` (44 R281). -/
def execIncDe (s : State) : Result := .next (incPair .de s)

/-- `ADD HL,DE` (44 R280). -/
def execAddHlDe (s : State) : Result := .next (addHlPair .de s)

/-- `DEC DE` (44 R282). -/
def execDecDe (s : State) : Result := .next (decPair .de s)

/-- `INC HL` (44 R281). -/
def execIncHl (s : State) : Result := .next (incPair .hl s)

/-- `ADD HL,HL` (44 R280). -/
def execAddHlHl (s : State) : Result := .next (addHlPair .hl s)

/-- `DEC HL` (44 R282). -/
def execDecHl (s : State) : Result := .next (decPair .hl s)

/-- `INC SP` (44 R281). -/
def execIncSp (s : State) : Result := .next (incPair .sp s)

/-- `ADD HL,SP` (44 R280). -/
def execAddHlSp (s : State) : Result := .next (addHlPair .sp s)

/-- `DEC SP` (44 R282). -/
def execDecSp (s : State) : Result := .next (decPair .sp s)

/-- `ADD SP,e` (44 R283). -/
def execAddSpOff (e : Byte) (s : State) : Result := .next (addSpOffset e s)

end Sys2Proof.Machine
end

