-- ==== Sys2Proof/Machine/Alu8.lean ====
section
/-! DEFINITION. 8-bit arithmetic and logic (spec/43_alu_8bit.md R240 to R272). -/

namespace Sys2Proof.Machine

/-! ## Shared operations -/

/-- An operation of A and `v` (43 R240 to R264). -/
def applyAlu (op : AluOp) (v : Byte) (s : State) : State :=
  let (r, f) := aluResult op s.cpu.a v s.cpu.flags.c
  s.mapCpu (fun c => { c with a := r, flags := f })

/-- The register forms: one byte, four ticks (43 R240). -/
def aluReg (op : AluOp) (r : Reg8) (s : State) : State := (applyAlu op (s.cpu.reg r) s).advance 1#16 4

/-- The `(HL)` forms: one byte, eight ticks (43 R240). -/
def aluHl (op : AluOp) (s : State) : State :=
  let (v, s1) := readHl s
  (applyAlu op v s1).advance 1#16 8

/-- The immediate forms: two bytes, eight ticks (43 R240). -/
def aluImm (op : AluOp) (n : Byte) (s : State) : State := (applyAlu op n s).advance 2#16 8

/-- `INC r` (43 R265). -/
def incReg (r : Reg8) (s : State) : State :=
  let (v, f) := inc8 (s.cpu.reg r) s.cpu.flags
  (s.mapCpu (fun c => { c.setReg r v with flags := f })).advance 1#16 4

/-- `DEC r` (43 R267). -/
def decReg (r : Reg8) (s : State) : State :=
  let (v, f) := dec8 (s.cpu.reg r) s.cpu.flags
  (s.mapCpu (fun c => { c.setReg r v with flags := f })).advance 1#16 4

/-- `INC (HL)` (43 R266): the flags come from the value read, whether or not the write is stored. -/
def incHl (s : State) : State :=
  let (v, s1) := readHl s
  let (r, f) := inc8 v s1.cpu.flags
  ((writeHl s1 r).mapCpu (fun c => { c with flags := f })).advance 1#16 12

/-- `DEC (HL)` (43 R268). -/
def decHl (s : State) : State :=
  let (v, s1) := readHl s
  let (r, f) := dec8 v s1.cpu.flags
  ((writeHl s1 r).mapCpu (fun c => { c with flags := f })).advance 1#16 12

/-- DAA (43 R269). -/
def daaOp (s : State) : State :=
  let (r, f) := daaResult s.cpu.a s.cpu.flags
  (s.mapCpu (fun c => { c with a := r, flags := f })).advance 1#16 4

/-- CPL (43 R270). -/
def complementOp (s : State) : State :=
  (s.mapCpu (fun c => { c with a := ~~~c.a, flags := { c.flags with n := true, h := true } })).advance 1#16 4

/-- SCF (43 R271). -/
def setCarryOp (s : State) : State :=
  (s.mapCpu (fun c => { c with flags := { c.flags with n := false, h := false, c := true } })).advance 1#16 4

/-- CCF (43 R272). -/
def flipCarryOp (s : State) : State :=
  (s.mapCpu (fun c => { c with flags := { c.flags with n := false, h := false, c := !c.flags.c } })).advance 1#16 4

/-! ## One meaning an instruction -/

/-- `INC B` (43 R265). -/
def execIncB (s : State) : Result := .next (incReg .b s)

/-- `DEC B` (43 R267). -/
def execDecB (s : State) : Result := .next (decReg .b s)

/-- `INC C` (43 R265). -/
def execIncC (s : State) : Result := .next (incReg .c s)

/-- `DEC C` (43 R267). -/
def execDecC (s : State) : Result := .next (decReg .c s)

/-- `INC D` (43 R265). -/
def execIncD (s : State) : Result := .next (incReg .d s)

/-- `DEC D` (43 R267). -/
def execDecD (s : State) : Result := .next (decReg .d s)

/-- `INC E` (43 R265). -/
def execIncE (s : State) : Result := .next (incReg .e s)

/-- `DEC E` (43 R267). -/
def execDecE (s : State) : Result := .next (decReg .e s)

/-- `INC H` (43 R265). -/
def execIncH (s : State) : Result := .next (incReg .h s)

/-- `DEC H` (43 R267). -/
def execDecH (s : State) : Result := .next (decReg .h s)

/-- `DAA` (43 R269). -/
def execDaa (s : State) : Result := .next (daaOp s)

/-- `INC L` (43 R265). -/
def execIncL (s : State) : Result := .next (incReg .l s)

/-- `DEC L` (43 R267). -/
def execDecL (s : State) : Result := .next (decReg .l s)

/-- `CPL` (43 R270). -/
def execCpl (s : State) : Result := .next (complementOp s)

/-- `INC (HL)` (43 R266). -/
def execIncIndHl (s : State) : Result := .next (incHl s)

/-- `DEC (HL)` (43 R268). -/
def execDecIndHl (s : State) : Result := .next (decHl s)

/-- `SCF` (43 R271). -/
def execScf (s : State) : Result := .next (setCarryOp s)

/-- `INC A` (43 R265). -/
def execIncA (s : State) : Result := .next (incReg .a s)

/-- `DEC A` (43 R267). -/
def execDecA (s : State) : Result := .next (decReg .a s)

/-- `CCF` (43 R272). -/
def execCcf (s : State) : Result := .next (flipCarryOp s)

/-- `ADD A,B` (43 R241). -/
def execAddAB (s : State) : Result := .next (aluReg .add .b s)

/-- `ADD A,C` (43 R241). -/
def execAddAC (s : State) : Result := .next (aluReg .add .c s)

/-- `ADD A,D` (43 R241). -/
def execAddAD (s : State) : Result := .next (aluReg .add .d s)

/-- `ADD A,E` (43 R241). -/
def execAddAE (s : State) : Result := .next (aluReg .add .e s)

/-- `ADD A,H` (43 R241). -/
def execAddAH (s : State) : Result := .next (aluReg .add .h s)

/-- `ADD A,L` (43 R241). -/
def execAddAL (s : State) : Result := .next (aluReg .add .l s)

/-- `ADD A,(HL)` (43 R242). -/
def execAddAIndHl (s : State) : Result := .next (aluHl .add s)

/-- `ADD A,A` (43 R241). -/
def execAddAA (s : State) : Result := .next (aluReg .add .a s)

/-- `ADC A,B` (43 R244). -/
def execAdcAB (s : State) : Result := .next (aluReg .adc .b s)

/-- `ADC A,C` (43 R244). -/
def execAdcAC (s : State) : Result := .next (aluReg .adc .c s)

/-- `ADC A,D` (43 R244). -/
def execAdcAD (s : State) : Result := .next (aluReg .adc .d s)

/-- `ADC A,E` (43 R244). -/
def execAdcAE (s : State) : Result := .next (aluReg .adc .e s)

/-- `ADC A,H` (43 R244). -/
def execAdcAH (s : State) : Result := .next (aluReg .adc .h s)

/-- `ADC A,L` (43 R244). -/
def execAdcAL (s : State) : Result := .next (aluReg .adc .l s)

/-- `ADC A,(HL)` (43 R245). -/
def execAdcAIndHl (s : State) : Result := .next (aluHl .adc s)

/-- `ADC A,A` (43 R244). -/
def execAdcAA (s : State) : Result := .next (aluReg .adc .a s)

/-- `SUB B` (43 R247). -/
def execSubB (s : State) : Result := .next (aluReg .sub .b s)

/-- `SUB C` (43 R247). -/
def execSubC (s : State) : Result := .next (aluReg .sub .c s)

/-- `SUB D` (43 R247). -/
def execSubD (s : State) : Result := .next (aluReg .sub .d s)

/-- `SUB E` (43 R247). -/
def execSubE (s : State) : Result := .next (aluReg .sub .e s)

/-- `SUB H` (43 R247). -/
def execSubH (s : State) : Result := .next (aluReg .sub .h s)

/-- `SUB L` (43 R247). -/
def execSubL (s : State) : Result := .next (aluReg .sub .l s)

/-- `SUB (HL)` (43 R248). -/
def execSubIndHl (s : State) : Result := .next (aluHl .sub s)

/-- `SUB A` (43 R247). -/
def execSubA (s : State) : Result := .next (aluReg .sub .a s)

/-- `SBC A,B` (43 R250). -/
def execSbcAB (s : State) : Result := .next (aluReg .sbc .b s)

/-- `SBC A,C` (43 R250). -/
def execSbcAC (s : State) : Result := .next (aluReg .sbc .c s)

/-- `SBC A,D` (43 R250). -/
def execSbcAD (s : State) : Result := .next (aluReg .sbc .d s)

/-- `SBC A,E` (43 R250). -/
def execSbcAE (s : State) : Result := .next (aluReg .sbc .e s)

/-- `SBC A,H` (43 R250). -/
def execSbcAH (s : State) : Result := .next (aluReg .sbc .h s)

/-- `SBC A,L` (43 R250). -/
def execSbcAL (s : State) : Result := .next (aluReg .sbc .l s)

/-- `SBC A,(HL)` (43 R251). -/
def execSbcAIndHl (s : State) : Result := .next (aluHl .sbc s)

/-- `SBC A,A` (43 R250). -/
def execSbcAA (s : State) : Result := .next (aluReg .sbc .a s)

/-- `AND B` (43 R253). -/
def execAndB (s : State) : Result := .next (aluReg .and .b s)

/-- `AND C` (43 R253). -/
def execAndC (s : State) : Result := .next (aluReg .and .c s)

/-- `AND D` (43 R253). -/
def execAndD (s : State) : Result := .next (aluReg .and .d s)

/-- `AND E` (43 R253). -/
def execAndE (s : State) : Result := .next (aluReg .and .e s)

/-- `AND H` (43 R253). -/
def execAndH (s : State) : Result := .next (aluReg .and .h s)

/-- `AND L` (43 R253). -/
def execAndL (s : State) : Result := .next (aluReg .and .l s)

/-- `AND (HL)` (43 R254). -/
def execAndIndHl (s : State) : Result := .next (aluHl .and s)

/-- `AND A` (43 R253). -/
def execAndA (s : State) : Result := .next (aluReg .and .a s)

/-- `XOR B` (43 R256). -/
def execXorB (s : State) : Result := .next (aluReg .xor .b s)

/-- `XOR C` (43 R256). -/
def execXorC (s : State) : Result := .next (aluReg .xor .c s)

/-- `XOR D` (43 R256). -/
def execXorD (s : State) : Result := .next (aluReg .xor .d s)

/-- `XOR E` (43 R256). -/
def execXorE (s : State) : Result := .next (aluReg .xor .e s)

/-- `XOR H` (43 R256). -/
def execXorH (s : State) : Result := .next (aluReg .xor .h s)

/-- `XOR L` (43 R256). -/
def execXorL (s : State) : Result := .next (aluReg .xor .l s)

/-- `XOR (HL)` (43 R257). -/
def execXorIndHl (s : State) : Result := .next (aluHl .xor s)

/-- `XOR A` (43 R256). -/
def execXorA (s : State) : Result := .next (aluReg .xor .a s)

/-- `OR B` (43 R259). -/
def execOrB (s : State) : Result := .next (aluReg .or .b s)

/-- `OR C` (43 R259). -/
def execOrC (s : State) : Result := .next (aluReg .or .c s)

/-- `OR D` (43 R259). -/
def execOrD (s : State) : Result := .next (aluReg .or .d s)

/-- `OR E` (43 R259). -/
def execOrE (s : State) : Result := .next (aluReg .or .e s)

/-- `OR H` (43 R259). -/
def execOrH (s : State) : Result := .next (aluReg .or .h s)

/-- `OR L` (43 R259). -/
def execOrL (s : State) : Result := .next (aluReg .or .l s)

/-- `OR (HL)` (43 R260). -/
def execOrIndHl (s : State) : Result := .next (aluHl .or s)

/-- `OR A` (43 R259). -/
def execOrA (s : State) : Result := .next (aluReg .or .a s)

/-- `CP B` (43 R262). -/
def execCpB (s : State) : Result := .next (aluReg .cp .b s)

/-- `CP C` (43 R262). -/
def execCpC (s : State) : Result := .next (aluReg .cp .c s)

/-- `CP D` (43 R262). -/
def execCpD (s : State) : Result := .next (aluReg .cp .d s)

/-- `CP E` (43 R262). -/
def execCpE (s : State) : Result := .next (aluReg .cp .e s)

/-- `CP H` (43 R262). -/
def execCpH (s : State) : Result := .next (aluReg .cp .h s)

/-- `CP L` (43 R262). -/
def execCpL (s : State) : Result := .next (aluReg .cp .l s)

/-- `CP (HL)` (43 R263). -/
def execCpIndHl (s : State) : Result := .next (aluHl .cp s)

/-- `CP A` (43 R262). -/
def execCpA (s : State) : Result := .next (aluReg .cp .a s)

/-- `ADD A,n` (43 R243). -/
def execAddAN8 (n : Byte) (s : State) : Result := .next (aluImm .add n s)

/-- `ADC A,n` (43 R246). -/
def execAdcAN8 (n : Byte) (s : State) : Result := .next (aluImm .adc n s)

/-- `SUB n` (43 R249). -/
def execSubN8 (n : Byte) (s : State) : Result := .next (aluImm .sub n s)

/-- `SBC A,n` (43 R252). -/
def execSbcAN8 (n : Byte) (s : State) : Result := .next (aluImm .sbc n s)

/-- `AND n` (43 R255). -/
def execAndN8 (n : Byte) (s : State) : Result := .next (aluImm .and n s)

/-- `XOR n` (43 R258). -/
def execXorN8 (n : Byte) (s : State) : Result := .next (aluImm .xor n s)

/-- `OR n` (43 R261). -/
def execOrN8 (n : Byte) (s : State) : Result := .next (aluImm .or n s)

/-- `CP n` (43 R264). -/
def execCpN8 (n : Byte) (s : State) : Result := .next (aluImm .cp n s)

end Sys2Proof.Machine
end

