-- ==== Sys2Proof/Machine/Control.lean ====
section
/-! DEFINITION. The CPU control instructions and the undefined opcodes
(spec/40_cpu_step_and_control.md R180 to R185). -/

namespace Sys2Proof.Machine

/-! ## Shared operations -/

/-- HALT (40 R181): with IME clear and an interrupt pending the halt bug is armed, else the CPU halts. -/
def haltOp (s : State) : State :=
  if !s.cpu.ime && s.irq.pending then (s.mapCpu (fun c => { c with haltBug := true })).advance 1#16 4
  else (s.mapCpu (fun c => { c with halted := true })).advance 1#16 4

/-- STOP (40 R182): the timer's counter is zeroed, `stopped` set; two bytes long. -/
def stopOp (s : State) : State :=
  ({ s with timer := { s.timer with counter := 0#16 },
            cpu := { s.cpu with stopped := true } }).advance 2#16 4

/-- EI (40 R183): the enable is scheduled for the next instruction's end. -/
def enableOp (s : State) : State :=
  (s.mapCpu (fun c => { c with imeScheduled := true })).advance 1#16 4

/-- DI (40 R184): IME is cleared at once; with `DI_CANCELS_EI` the enable the previous EI scheduled is
discarded. -/
def disableOp (s : State) : State :=
  (s.mapCpu (fun c => { c with ime := false, en := c.en && !s.cfg.diCancelsEi })).advance 1#16 4

/-- An undefined opcode (40 R185): reported, and otherwise one byte, four ticks, no effect. -/
def undefinedOp (op : Byte) (s : State) : State :=
  (s.report (.undefinedOpcode op s.cpu.pc)).advance 1#16 4

/-! ## One meaning an instruction -/

/-- `NOP` (40 R180). -/
def execNop (s : State) : Result := .next (s.advance 1#16 4)

/-- `STOP` (40 R182). -/
def execStop (s : State) : Result := .next (stopOp s)

/-- `HALT` (40 R181). -/
def execHalt (s : State) : Result := .next (haltOp s)

/-- `UNDEFINED_D3` (40 R185). -/
def execUndefinedD3 (s : State) : Result := .next (undefinedOp 0xD3#8 s)

/-- `UNDEFINED_DB` (40 R185). -/
def execUndefinedDb (s : State) : Result := .next (undefinedOp 0xDB#8 s)

/-- `UNDEFINED_DD` (40 R185). -/
def execUndefinedDd (s : State) : Result := .next (undefinedOp 0xDD#8 s)

/-- `UNDEFINED_E3` (40 R185). -/
def execUndefinedE3 (s : State) : Result := .next (undefinedOp 0xE3#8 s)

/-- `UNDEFINED_E4` (40 R185). -/
def execUndefinedE4 (s : State) : Result := .next (undefinedOp 0xE4#8 s)

/-- `UNDEFINED_EB` (40 R185). -/
def execUndefinedEb (s : State) : Result := .next (undefinedOp 0xEB#8 s)

/-- `UNDEFINED_EC` (40 R185). -/
def execUndefinedEc (s : State) : Result := .next (undefinedOp 0xEC#8 s)

/-- `UNDEFINED_ED` (40 R185). -/
def execUndefinedEd (s : State) : Result := .next (undefinedOp 0xED#8 s)

/-- `DI` (40 R184). -/
def execDi (s : State) : Result := .next (disableOp s)

/-- `UNDEFINED_F4` (40 R185). -/
def execUndefinedF4 (s : State) : Result := .next (undefinedOp 0xF4#8 s)

/-- `EI` (40 R183). -/
def execEi (s : State) : Result := .next (enableOp s)

/-- `UNDEFINED_FC` (40 R185). -/
def execUndefinedFc (s : State) : Result := .next (undefinedOp 0xFC#8 s)

/-- `UNDEFINED_FD` (40 R185). -/
def execUndefinedFd (s : State) : Result := .next (undefinedOp 0xFD#8 s)

end Sys2Proof.Machine
end

