-- ==== Sys2Proof/Machine/Extended.lean ====
section
/-! DEFINITION. The extended opcode space (spec/45_rotates_shifts_bits.md R294 to R317) and the prefix row
(40_cpu_step_and_control.md R186). Every form is two bytes long; the read-modify-write forms are one read
then one write of the same address (45 R294). -/

namespace Sys2Proof.Machine

/-! ## Shared operations -/

/-- A rotate or shift of a register (45 R295 to R309). -/
def rotReg (op : RotOp) (r : Reg8) (s : State) : State :=
  let (v, c) := rotResult op (s.cpu.reg r) s.cpu.flags.c
  (s.mapCpu (fun k => { k.setReg r v with flags := rotFlags v c })).advance 2#16 8

/-- A rotate or shift of `(HL)` (45 R296 to R310). -/
def rotHl (op : RotOp) (s : State) : State :=
  let (v, s1) := readHl s
  let (r, c) := rotResult op v s1.cpu.flags.c
  ((writeHl s1 r).mapCpu (fun k => { k with flags := rotFlags r c })).advance 2#16 16

/-- `BIT b,r` (45 R311). -/
def bitTestReg (b : Fin 8) (r : Reg8) (s : State) : State :=
  (s.mapCpu (fun c => { c with flags := bitTestFlags (c.reg r) b c.flags })).advance 2#16 8

/-- `BIT b,(HL)` (45 R312): a read and no write. -/
def bitTestHl (b : Fin 8) (s : State) : State :=
  let (v, s1) := readHl s
  (s1.mapCpu (fun c => { c with flags := bitTestFlags v b c.flags })).advance 2#16 12

/-- `RES b,r` (45 R313). -/
def bitResetReg (b : Fin 8) (r : Reg8) (s : State) : State :=
  (s.mapCpu (fun c => c.setReg r (clearBit (c.reg r) b))).advance 2#16 8

/-- `RES b,(HL)` (45 R314). -/
def bitResetHl (b : Fin 8) (s : State) : State :=
  let (v, s1) := readHl s
  (writeHl s1 (clearBit v b)).advance 2#16 16

/-- `SET b,r` (45 R315). -/
def bitSetReg (b : Fin 8) (r : Reg8) (s : State) : State :=
  (s.mapCpu (fun c => c.setReg r (setBit (c.reg r) b))).advance 2#16 8

/-- `SET b,(HL)` (45 R316). -/
def bitSetHl (b : Fin 8) (s : State) : State :=
  let (v, s1) := readHl s
  (writeHl s1 (setBit v b)).advance 2#16 16

/-- The rule the second byte selects (40 R186; 45 R294), by its fields. -/
def extendedOp (op2 : Byte) (s : State) : State :=
  let y := bitField op2 3 3
  let z := bitField op2 0 3
  match bitField op2 6 2, operand8 z with
  | 0, .reg r => rotReg (rotCode y) r s
  | 0, .indHl => rotHl (rotCode y) s
  | 1, .reg r => bitTestReg (index3 y) r s
  | 1, .indHl => bitTestHl (index3 y) s
  | 2, .reg r => bitResetReg (index3 y) r s
  | 2, .indHl => bitResetHl (index3 y) s
  | _, .reg r => bitSetReg (index3 y) r s
  | _, .indHl => bitSetHl (index3 y) s

/-! ## One meaning an instruction -/

/-- `PREFIX CB` (40 R186). -/
def execPrefixCb (op2 : Byte) (s : State) : Result := .next (extendedOp op2 s)

/-- `RLC B` (45 R295). -/
def execRlcB (s : State) : Result := .next (rotReg .rlc .b s)

/-- `RLC C` (45 R295). -/
def execRlcC (s : State) : Result := .next (rotReg .rlc .c s)

/-- `RLC D` (45 R295). -/
def execRlcD (s : State) : Result := .next (rotReg .rlc .d s)

/-- `RLC E` (45 R295). -/
def execRlcE (s : State) : Result := .next (rotReg .rlc .e s)

/-- `RLC H` (45 R295). -/
def execRlcH (s : State) : Result := .next (rotReg .rlc .h s)

/-- `RLC L` (45 R295). -/
def execRlcL (s : State) : Result := .next (rotReg .rlc .l s)

/-- `RLC (HL)` (45 R296). -/
def execRlcIndHl (s : State) : Result := .next (rotHl .rlc s)

/-- `RLC A` (45 R295). -/
def execRlcA (s : State) : Result := .next (rotReg .rlc .a s)

/-- `RRC B` (45 R297). -/
def execRrcB (s : State) : Result := .next (rotReg .rrc .b s)

/-- `RRC C` (45 R297). -/
def execRrcC (s : State) : Result := .next (rotReg .rrc .c s)

/-- `RRC D` (45 R297). -/
def execRrcD (s : State) : Result := .next (rotReg .rrc .d s)

/-- `RRC E` (45 R297). -/
def execRrcE (s : State) : Result := .next (rotReg .rrc .e s)

/-- `RRC H` (45 R297). -/
def execRrcH (s : State) : Result := .next (rotReg .rrc .h s)

/-- `RRC L` (45 R297). -/
def execRrcL (s : State) : Result := .next (rotReg .rrc .l s)

/-- `RRC (HL)` (45 R298). -/
def execRrcIndHl (s : State) : Result := .next (rotHl .rrc s)

/-- `RRC A` (45 R297). -/
def execRrcA (s : State) : Result := .next (rotReg .rrc .a s)

/-- `RL B` (45 R299). -/
def execRlB (s : State) : Result := .next (rotReg .rl .b s)

/-- `RL C` (45 R299). -/
def execRlC (s : State) : Result := .next (rotReg .rl .c s)

/-- `RL D` (45 R299). -/
def execRlD (s : State) : Result := .next (rotReg .rl .d s)

/-- `RL E` (45 R299). -/
def execRlE (s : State) : Result := .next (rotReg .rl .e s)

/-- `RL H` (45 R299). -/
def execRlH (s : State) : Result := .next (rotReg .rl .h s)

/-- `RL L` (45 R299). -/
def execRlL (s : State) : Result := .next (rotReg .rl .l s)

/-- `RL (HL)` (45 R300). -/
def execRlIndHl (s : State) : Result := .next (rotHl .rl s)

/-- `RL A` (45 R299). -/
def execRlA (s : State) : Result := .next (rotReg .rl .a s)

/-- `RR B` (45 R301). -/
def execRrB (s : State) : Result := .next (rotReg .rr .b s)

/-- `RR C` (45 R301). -/
def execRrC (s : State) : Result := .next (rotReg .rr .c s)

/-- `RR D` (45 R301). -/
def execRrD (s : State) : Result := .next (rotReg .rr .d s)

/-- `RR E` (45 R301). -/
def execRrE (s : State) : Result := .next (rotReg .rr .e s)

/-- `RR H` (45 R301). -/
def execRrH (s : State) : Result := .next (rotReg .rr .h s)

/-- `RR L` (45 R301). -/
def execRrL (s : State) : Result := .next (rotReg .rr .l s)

/-- `RR (HL)` (45 R302). -/
def execRrIndHl (s : State) : Result := .next (rotHl .rr s)

/-- `RR A` (45 R301). -/
def execRrA (s : State) : Result := .next (rotReg .rr .a s)

/-- `SLA B` (45 R303). -/
def execSlaB (s : State) : Result := .next (rotReg .sla .b s)

/-- `SLA C` (45 R303). -/
def execSlaC (s : State) : Result := .next (rotReg .sla .c s)

/-- `SLA D` (45 R303). -/
def execSlaD (s : State) : Result := .next (rotReg .sla .d s)

/-- `SLA E` (45 R303). -/
def execSlaE (s : State) : Result := .next (rotReg .sla .e s)

/-- `SLA H` (45 R303). -/
def execSlaH (s : State) : Result := .next (rotReg .sla .h s)

/-- `SLA L` (45 R303). -/
def execSlaL (s : State) : Result := .next (rotReg .sla .l s)

/-- `SLA (HL)` (45 R304). -/
def execSlaIndHl (s : State) : Result := .next (rotHl .sla s)

/-- `SLA A` (45 R303). -/
def execSlaA (s : State) : Result := .next (rotReg .sla .a s)

/-- `SRA B` (45 R305). -/
def execSraB (s : State) : Result := .next (rotReg .sra .b s)

/-- `SRA C` (45 R305). -/
def execSraC (s : State) : Result := .next (rotReg .sra .c s)

/-- `SRA D` (45 R305). -/
def execSraD (s : State) : Result := .next (rotReg .sra .d s)

/-- `SRA E` (45 R305). -/
def execSraE (s : State) : Result := .next (rotReg .sra .e s)

/-- `SRA H` (45 R305). -/
def execSraH (s : State) : Result := .next (rotReg .sra .h s)

/-- `SRA L` (45 R305). -/
def execSraL (s : State) : Result := .next (rotReg .sra .l s)

/-- `SRA (HL)` (45 R306). -/
def execSraIndHl (s : State) : Result := .next (rotHl .sra s)

/-- `SRA A` (45 R305). -/
def execSraA (s : State) : Result := .next (rotReg .sra .a s)

/-- `SWAP B` (45 R307). -/
def execSwapB (s : State) : Result := .next (rotReg .swap .b s)

/-- `SWAP C` (45 R307). -/
def execSwapC (s : State) : Result := .next (rotReg .swap .c s)

/-- `SWAP D` (45 R307). -/
def execSwapD (s : State) : Result := .next (rotReg .swap .d s)

/-- `SWAP E` (45 R307). -/
def execSwapE (s : State) : Result := .next (rotReg .swap .e s)

/-- `SWAP H` (45 R307). -/
def execSwapH (s : State) : Result := .next (rotReg .swap .h s)

/-- `SWAP L` (45 R307). -/
def execSwapL (s : State) : Result := .next (rotReg .swap .l s)

/-- `SWAP (HL)` (45 R308). -/
def execSwapIndHl (s : State) : Result := .next (rotHl .swap s)

/-- `SWAP A` (45 R307). -/
def execSwapA (s : State) : Result := .next (rotReg .swap .a s)

/-- `SRL B` (45 R309). -/
def execSrlB (s : State) : Result := .next (rotReg .srl .b s)

/-- `SRL C` (45 R309). -/
def execSrlC (s : State) : Result := .next (rotReg .srl .c s)

/-- `SRL D` (45 R309). -/
def execSrlD (s : State) : Result := .next (rotReg .srl .d s)

/-- `SRL E` (45 R309). -/
def execSrlE (s : State) : Result := .next (rotReg .srl .e s)

/-- `SRL H` (45 R309). -/
def execSrlH (s : State) : Result := .next (rotReg .srl .h s)

/-- `SRL L` (45 R309). -/
def execSrlL (s : State) : Result := .next (rotReg .srl .l s)

/-- `SRL (HL)` (45 R310). -/
def execSrlIndHl (s : State) : Result := .next (rotHl .srl s)

/-- `SRL A` (45 R309). -/
def execSrlA (s : State) : Result := .next (rotReg .srl .a s)

/-- `BIT 0,B` (45 R311). -/
def execBit0B (s : State) : Result := .next (bitTestReg 0 .b s)

/-- `BIT 0,C` (45 R311). -/
def execBit0C (s : State) : Result := .next (bitTestReg 0 .c s)

/-- `BIT 0,D` (45 R311). -/
def execBit0D (s : State) : Result := .next (bitTestReg 0 .d s)

/-- `BIT 0,E` (45 R311). -/
def execBit0E (s : State) : Result := .next (bitTestReg 0 .e s)

/-- `BIT 0,H` (45 R311). -/
def execBit0H (s : State) : Result := .next (bitTestReg 0 .h s)

/-- `BIT 0,L` (45 R311). -/
def execBit0L (s : State) : Result := .next (bitTestReg 0 .l s)

/-- `BIT 0,(HL)` (45 R312). -/
def execBit0IndHl (s : State) : Result := .next (bitTestHl 0 s)

/-- `BIT 0,A` (45 R311). -/
def execBit0A (s : State) : Result := .next (bitTestReg 0 .a s)

/-- `BIT 1,B` (45 R311). -/
def execBit1B (s : State) : Result := .next (bitTestReg 1 .b s)

/-- `BIT 1,C` (45 R311). -/
def execBit1C (s : State) : Result := .next (bitTestReg 1 .c s)

/-- `BIT 1,D` (45 R311). -/
def execBit1D (s : State) : Result := .next (bitTestReg 1 .d s)

/-- `BIT 1,E` (45 R311). -/
def execBit1E (s : State) : Result := .next (bitTestReg 1 .e s)

/-- `BIT 1,H` (45 R311). -/
def execBit1H (s : State) : Result := .next (bitTestReg 1 .h s)

/-- `BIT 1,L` (45 R311). -/
def execBit1L (s : State) : Result := .next (bitTestReg 1 .l s)

/-- `BIT 1,(HL)` (45 R312). -/
def execBit1IndHl (s : State) : Result := .next (bitTestHl 1 s)

/-- `BIT 1,A` (45 R311). -/
def execBit1A (s : State) : Result := .next (bitTestReg 1 .a s)

/-- `BIT 2,B` (45 R311). -/
def execBit2B (s : State) : Result := .next (bitTestReg 2 .b s)

/-- `BIT 2,C` (45 R311). -/
def execBit2C (s : State) : Result := .next (bitTestReg 2 .c s)

/-- `BIT 2,D` (45 R311). -/
def execBit2D (s : State) : Result := .next (bitTestReg 2 .d s)

/-- `BIT 2,E` (45 R311). -/
def execBit2E (s : State) : Result := .next (bitTestReg 2 .e s)

/-- `BIT 2,H` (45 R311). -/
def execBit2H (s : State) : Result := .next (bitTestReg 2 .h s)

/-- `BIT 2,L` (45 R311). -/
def execBit2L (s : State) : Result := .next (bitTestReg 2 .l s)

/-- `BIT 2,(HL)` (45 R312). -/
def execBit2IndHl (s : State) : Result := .next (bitTestHl 2 s)

/-- `BIT 2,A` (45 R311). -/
def execBit2A (s : State) : Result := .next (bitTestReg 2 .a s)

/-- `BIT 3,B` (45 R311). -/
def execBit3B (s : State) : Result := .next (bitTestReg 3 .b s)

/-- `BIT 3,C` (45 R311). -/
def execBit3C (s : State) : Result := .next (bitTestReg 3 .c s)

/-- `BIT 3,D` (45 R311). -/
def execBit3D (s : State) : Result := .next (bitTestReg 3 .d s)

/-- `BIT 3,E` (45 R311). -/
def execBit3E (s : State) : Result := .next (bitTestReg 3 .e s)

/-- `BIT 3,H` (45 R311). -/
def execBit3H (s : State) : Result := .next (bitTestReg 3 .h s)

/-- `BIT 3,L` (45 R311). -/
def execBit3L (s : State) : Result := .next (bitTestReg 3 .l s)

/-- `BIT 3,(HL)` (45 R312). -/
def execBit3IndHl (s : State) : Result := .next (bitTestHl 3 s)

/-- `BIT 3,A` (45 R311). -/
def execBit3A (s : State) : Result := .next (bitTestReg 3 .a s)

/-- `BIT 4,B` (45 R311). -/
def execBit4B (s : State) : Result := .next (bitTestReg 4 .b s)

/-- `BIT 4,C` (45 R311). -/
def execBit4C (s : State) : Result := .next (bitTestReg 4 .c s)

/-- `BIT 4,D` (45 R311). -/
def execBit4D (s : State) : Result := .next (bitTestReg 4 .d s)

/-- `BIT 4,E` (45 R311). -/
def execBit4E (s : State) : Result := .next (bitTestReg 4 .e s)

/-- `BIT 4,H` (45 R311). -/
def execBit4H (s : State) : Result := .next (bitTestReg 4 .h s)

/-- `BIT 4,L` (45 R311). -/
def execBit4L (s : State) : Result := .next (bitTestReg 4 .l s)

/-- `BIT 4,(HL)` (45 R312). -/
def execBit4IndHl (s : State) : Result := .next (bitTestHl 4 s)

/-- `BIT 4,A` (45 R311). -/
def execBit4A (s : State) : Result := .next (bitTestReg 4 .a s)

/-- `BIT 5,B` (45 R311). -/
def execBit5B (s : State) : Result := .next (bitTestReg 5 .b s)

/-- `BIT 5,C` (45 R311). -/
def execBit5C (s : State) : Result := .next (bitTestReg 5 .c s)

/-- `BIT 5,D` (45 R311). -/
def execBit5D (s : State) : Result := .next (bitTestReg 5 .d s)

/-- `BIT 5,E` (45 R311). -/
def execBit5E (s : State) : Result := .next (bitTestReg 5 .e s)

/-- `BIT 5,H` (45 R311). -/
def execBit5H (s : State) : Result := .next (bitTestReg 5 .h s)

/-- `BIT 5,L` (45 R311). -/
def execBit5L (s : State) : Result := .next (bitTestReg 5 .l s)

/-- `BIT 5,(HL)` (45 R312). -/
def execBit5IndHl (s : State) : Result := .next (bitTestHl 5 s)

/-- `BIT 5,A` (45 R311). -/
def execBit5A (s : State) : Result := .next (bitTestReg 5 .a s)

/-- `BIT 6,B` (45 R311). -/
def execBit6B (s : State) : Result := .next (bitTestReg 6 .b s)

/-- `BIT 6,C` (45 R311). -/
def execBit6C (s : State) : Result := .next (bitTestReg 6 .c s)

/-- `BIT 6,D` (45 R311). -/
def execBit6D (s : State) : Result := .next (bitTestReg 6 .d s)

/-- `BIT 6,E` (45 R311). -/
def execBit6E (s : State) : Result := .next (bitTestReg 6 .e s)

/-- `BIT 6,H` (45 R311). -/
def execBit6H (s : State) : Result := .next (bitTestReg 6 .h s)

/-- `BIT 6,L` (45 R311). -/
def execBit6L (s : State) : Result := .next (bitTestReg 6 .l s)

/-- `BIT 6,(HL)` (45 R312). -/
def execBit6IndHl (s : State) : Result := .next (bitTestHl 6 s)

/-- `BIT 6,A` (45 R311). -/
def execBit6A (s : State) : Result := .next (bitTestReg 6 .a s)

/-- `BIT 7,B` (45 R311). -/
def execBit7B (s : State) : Result := .next (bitTestReg 7 .b s)

/-- `BIT 7,C` (45 R311). -/
def execBit7C (s : State) : Result := .next (bitTestReg 7 .c s)

/-- `BIT 7,D` (45 R311). -/
def execBit7D (s : State) : Result := .next (bitTestReg 7 .d s)

/-- `BIT 7,E` (45 R311). -/
def execBit7E (s : State) : Result := .next (bitTestReg 7 .e s)

/-- `BIT 7,H` (45 R311). -/
def execBit7H (s : State) : Result := .next (bitTestReg 7 .h s)

/-- `BIT 7,L` (45 R311). -/
def execBit7L (s : State) : Result := .next (bitTestReg 7 .l s)

/-- `BIT 7,(HL)` (45 R312). -/
def execBit7IndHl (s : State) : Result := .next (bitTestHl 7 s)

/-- `BIT 7,A` (45 R311). -/
def execBit7A (s : State) : Result := .next (bitTestReg 7 .a s)

/-- `RES 0,B` (45 R313). -/
def execRes0B (s : State) : Result := .next (bitResetReg 0 .b s)

/-- `RES 0,C` (45 R313). -/
def execRes0C (s : State) : Result := .next (bitResetReg 0 .c s)

/-- `RES 0,D` (45 R313). -/
def execRes0D (s : State) : Result := .next (bitResetReg 0 .d s)

/-- `RES 0,E` (45 R313). -/
def execRes0E (s : State) : Result := .next (bitResetReg 0 .e s)

/-- `RES 0,H` (45 R313). -/
def execRes0H (s : State) : Result := .next (bitResetReg 0 .h s)

/-- `RES 0,L` (45 R313). -/
def execRes0L (s : State) : Result := .next (bitResetReg 0 .l s)

/-- `RES 0,(HL)` (45 R314). -/
def execRes0IndHl (s : State) : Result := .next (bitResetHl 0 s)

/-- `RES 0,A` (45 R313). -/
def execRes0A (s : State) : Result := .next (bitResetReg 0 .a s)

/-- `RES 1,B` (45 R313). -/
def execRes1B (s : State) : Result := .next (bitResetReg 1 .b s)

/-- `RES 1,C` (45 R313). -/
def execRes1C (s : State) : Result := .next (bitResetReg 1 .c s)

/-- `RES 1,D` (45 R313). -/
def execRes1D (s : State) : Result := .next (bitResetReg 1 .d s)

/-- `RES 1,E` (45 R313). -/
def execRes1E (s : State) : Result := .next (bitResetReg 1 .e s)

/-- `RES 1,H` (45 R313). -/
def execRes1H (s : State) : Result := .next (bitResetReg 1 .h s)

/-- `RES 1,L` (45 R313). -/
def execRes1L (s : State) : Result := .next (bitResetReg 1 .l s)

/-- `RES 1,(HL)` (45 R314). -/
def execRes1IndHl (s : State) : Result := .next (bitResetHl 1 s)

/-- `RES 1,A` (45 R313). -/
def execRes1A (s : State) : Result := .next (bitResetReg 1 .a s)

/-- `RES 2,B` (45 R313). -/
def execRes2B (s : State) : Result := .next (bitResetReg 2 .b s)

/-- `RES 2,C` (45 R313). -/
def execRes2C (s : State) : Result := .next (bitResetReg 2 .c s)

/-- `RES 2,D` (45 R313). -/
def execRes2D (s : State) : Result := .next (bitResetReg 2 .d s)

/-- `RES 2,E` (45 R313). -/
def execRes2E (s : State) : Result := .next (bitResetReg 2 .e s)

/-- `RES 2,H` (45 R313). -/
def execRes2H (s : State) : Result := .next (bitResetReg 2 .h s)

/-- `RES 2,L` (45 R313). -/
def execRes2L (s : State) : Result := .next (bitResetReg 2 .l s)

/-- `RES 2,(HL)` (45 R314). -/
def execRes2IndHl (s : State) : Result := .next (bitResetHl 2 s)

/-- `RES 2,A` (45 R313). -/
def execRes2A (s : State) : Result := .next (bitResetReg 2 .a s)

/-- `RES 3,B` (45 R313). -/
def execRes3B (s : State) : Result := .next (bitResetReg 3 .b s)

/-- `RES 3,C` (45 R313). -/
def execRes3C (s : State) : Result := .next (bitResetReg 3 .c s)

/-- `RES 3,D` (45 R313). -/
def execRes3D (s : State) : Result := .next (bitResetReg 3 .d s)

/-- `RES 3,E` (45 R313). -/
def execRes3E (s : State) : Result := .next (bitResetReg 3 .e s)

/-- `RES 3,H` (45 R313). -/
def execRes3H (s : State) : Result := .next (bitResetReg 3 .h s)

/-- `RES 3,L` (45 R313). -/
def execRes3L (s : State) : Result := .next (bitResetReg 3 .l s)

/-- `RES 3,(HL)` (45 R314). -/
def execRes3IndHl (s : State) : Result := .next (bitResetHl 3 s)

/-- `RES 3,A` (45 R313). -/
def execRes3A (s : State) : Result := .next (bitResetReg 3 .a s)

/-- `RES 4,B` (45 R313). -/
def execRes4B (s : State) : Result := .next (bitResetReg 4 .b s)

/-- `RES 4,C` (45 R313). -/
def execRes4C (s : State) : Result := .next (bitResetReg 4 .c s)

/-- `RES 4,D` (45 R313). -/
def execRes4D (s : State) : Result := .next (bitResetReg 4 .d s)

/-- `RES 4,E` (45 R313). -/
def execRes4E (s : State) : Result := .next (bitResetReg 4 .e s)

/-- `RES 4,H` (45 R313). -/
def execRes4H (s : State) : Result := .next (bitResetReg 4 .h s)

/-- `RES 4,L` (45 R313). -/
def execRes4L (s : State) : Result := .next (bitResetReg 4 .l s)

/-- `RES 4,(HL)` (45 R314). -/
def execRes4IndHl (s : State) : Result := .next (bitResetHl 4 s)

/-- `RES 4,A` (45 R313). -/
def execRes4A (s : State) : Result := .next (bitResetReg 4 .a s)

/-- `RES 5,B` (45 R313). -/
def execRes5B (s : State) : Result := .next (bitResetReg 5 .b s)

/-- `RES 5,C` (45 R313). -/
def execRes5C (s : State) : Result := .next (bitResetReg 5 .c s)

/-- `RES 5,D` (45 R313). -/
def execRes5D (s : State) : Result := .next (bitResetReg 5 .d s)

/-- `RES 5,E` (45 R313). -/
def execRes5E (s : State) : Result := .next (bitResetReg 5 .e s)

/-- `RES 5,H` (45 R313). -/
def execRes5H (s : State) : Result := .next (bitResetReg 5 .h s)

/-- `RES 5,L` (45 R313). -/
def execRes5L (s : State) : Result := .next (bitResetReg 5 .l s)

/-- `RES 5,(HL)` (45 R314). -/
def execRes5IndHl (s : State) : Result := .next (bitResetHl 5 s)

/-- `RES 5,A` (45 R313). -/
def execRes5A (s : State) : Result := .next (bitResetReg 5 .a s)

/-- `RES 6,B` (45 R313). -/
def execRes6B (s : State) : Result := .next (bitResetReg 6 .b s)

/-- `RES 6,C` (45 R313). -/
def execRes6C (s : State) : Result := .next (bitResetReg 6 .c s)

/-- `RES 6,D` (45 R313). -/
def execRes6D (s : State) : Result := .next (bitResetReg 6 .d s)

/-- `RES 6,E` (45 R313). -/
def execRes6E (s : State) : Result := .next (bitResetReg 6 .e s)

/-- `RES 6,H` (45 R313). -/
def execRes6H (s : State) : Result := .next (bitResetReg 6 .h s)

/-- `RES 6,L` (45 R313). -/
def execRes6L (s : State) : Result := .next (bitResetReg 6 .l s)

/-- `RES 6,(HL)` (45 R314). -/
def execRes6IndHl (s : State) : Result := .next (bitResetHl 6 s)

/-- `RES 6,A` (45 R313). -/
def execRes6A (s : State) : Result := .next (bitResetReg 6 .a s)

/-- `RES 7,B` (45 R313). -/
def execRes7B (s : State) : Result := .next (bitResetReg 7 .b s)

/-- `RES 7,C` (45 R313). -/
def execRes7C (s : State) : Result := .next (bitResetReg 7 .c s)

/-- `RES 7,D` (45 R313). -/
def execRes7D (s : State) : Result := .next (bitResetReg 7 .d s)

/-- `RES 7,E` (45 R313). -/
def execRes7E (s : State) : Result := .next (bitResetReg 7 .e s)

/-- `RES 7,H` (45 R313). -/
def execRes7H (s : State) : Result := .next (bitResetReg 7 .h s)

/-- `RES 7,L` (45 R313). -/
def execRes7L (s : State) : Result := .next (bitResetReg 7 .l s)

/-- `RES 7,(HL)` (45 R314). -/
def execRes7IndHl (s : State) : Result := .next (bitResetHl 7 s)

/-- `RES 7,A` (45 R313). -/
def execRes7A (s : State) : Result := .next (bitResetReg 7 .a s)

/-- `SET 0,B` (45 R315). -/
def execSet0B (s : State) : Result := .next (bitSetReg 0 .b s)

/-- `SET 0,C` (45 R315). -/
def execSet0C (s : State) : Result := .next (bitSetReg 0 .c s)

/-- `SET 0,D` (45 R315). -/
def execSet0D (s : State) : Result := .next (bitSetReg 0 .d s)

/-- `SET 0,E` (45 R315). -/
def execSet0E (s : State) : Result := .next (bitSetReg 0 .e s)

/-- `SET 0,H` (45 R315). -/
def execSet0H (s : State) : Result := .next (bitSetReg 0 .h s)

/-- `SET 0,L` (45 R315). -/
def execSet0L (s : State) : Result := .next (bitSetReg 0 .l s)

/-- `SET 0,(HL)` (45 R316). -/
def execSet0IndHl (s : State) : Result := .next (bitSetHl 0 s)

/-- `SET 0,A` (45 R315). -/
def execSet0A (s : State) : Result := .next (bitSetReg 0 .a s)

/-- `SET 1,B` (45 R315). -/
def execSet1B (s : State) : Result := .next (bitSetReg 1 .b s)

/-- `SET 1,C` (45 R315). -/
def execSet1C (s : State) : Result := .next (bitSetReg 1 .c s)

/-- `SET 1,D` (45 R315). -/
def execSet1D (s : State) : Result := .next (bitSetReg 1 .d s)

/-- `SET 1,E` (45 R315). -/
def execSet1E (s : State) : Result := .next (bitSetReg 1 .e s)

/-- `SET 1,H` (45 R315). -/
def execSet1H (s : State) : Result := .next (bitSetReg 1 .h s)

/-- `SET 1,L` (45 R315). -/
def execSet1L (s : State) : Result := .next (bitSetReg 1 .l s)

/-- `SET 1,(HL)` (45 R316). -/
def execSet1IndHl (s : State) : Result := .next (bitSetHl 1 s)

/-- `SET 1,A` (45 R315). -/
def execSet1A (s : State) : Result := .next (bitSetReg 1 .a s)

/-- `SET 2,B` (45 R315). -/
def execSet2B (s : State) : Result := .next (bitSetReg 2 .b s)

/-- `SET 2,C` (45 R315). -/
def execSet2C (s : State) : Result := .next (bitSetReg 2 .c s)

/-- `SET 2,D` (45 R315). -/
def execSet2D (s : State) : Result := .next (bitSetReg 2 .d s)

/-- `SET 2,E` (45 R315). -/
def execSet2E (s : State) : Result := .next (bitSetReg 2 .e s)

/-- `SET 2,H` (45 R315). -/
def execSet2H (s : State) : Result := .next (bitSetReg 2 .h s)

/-- `SET 2,L` (45 R315). -/
def execSet2L (s : State) : Result := .next (bitSetReg 2 .l s)

/-- `SET 2,(HL)` (45 R316). -/
def execSet2IndHl (s : State) : Result := .next (bitSetHl 2 s)

/-- `SET 2,A` (45 R315). -/
def execSet2A (s : State) : Result := .next (bitSetReg 2 .a s)

/-- `SET 3,B` (45 R315). -/
def execSet3B (s : State) : Result := .next (bitSetReg 3 .b s)

/-- `SET 3,C` (45 R315). -/
def execSet3C (s : State) : Result := .next (bitSetReg 3 .c s)

/-- `SET 3,D` (45 R315). -/
def execSet3D (s : State) : Result := .next (bitSetReg 3 .d s)

/-- `SET 3,E` (45 R315). -/
def execSet3E (s : State) : Result := .next (bitSetReg 3 .e s)

/-- `SET 3,H` (45 R315). -/
def execSet3H (s : State) : Result := .next (bitSetReg 3 .h s)

/-- `SET 3,L` (45 R315). -/
def execSet3L (s : State) : Result := .next (bitSetReg 3 .l s)

/-- `SET 3,(HL)` (45 R316). -/
def execSet3IndHl (s : State) : Result := .next (bitSetHl 3 s)

/-- `SET 3,A` (45 R315). -/
def execSet3A (s : State) : Result := .next (bitSetReg 3 .a s)

/-- `SET 4,B` (45 R315). -/
def execSet4B (s : State) : Result := .next (bitSetReg 4 .b s)

/-- `SET 4,C` (45 R315). -/
def execSet4C (s : State) : Result := .next (bitSetReg 4 .c s)

/-- `SET 4,D` (45 R315). -/
def execSet4D (s : State) : Result := .next (bitSetReg 4 .d s)

/-- `SET 4,E` (45 R315). -/
def execSet4E (s : State) : Result := .next (bitSetReg 4 .e s)

/-- `SET 4,H` (45 R315). -/
def execSet4H (s : State) : Result := .next (bitSetReg 4 .h s)

/-- `SET 4,L` (45 R315). -/
def execSet4L (s : State) : Result := .next (bitSetReg 4 .l s)

/-- `SET 4,(HL)` (45 R316). -/
def execSet4IndHl (s : State) : Result := .next (bitSetHl 4 s)

/-- `SET 4,A` (45 R315). -/
def execSet4A (s : State) : Result := .next (bitSetReg 4 .a s)

/-- `SET 5,B` (45 R315). -/
def execSet5B (s : State) : Result := .next (bitSetReg 5 .b s)

/-- `SET 5,C` (45 R315). -/
def execSet5C (s : State) : Result := .next (bitSetReg 5 .c s)

/-- `SET 5,D` (45 R315). -/
def execSet5D (s : State) : Result := .next (bitSetReg 5 .d s)

/-- `SET 5,E` (45 R315). -/
def execSet5E (s : State) : Result := .next (bitSetReg 5 .e s)

/-- `SET 5,H` (45 R315). -/
def execSet5H (s : State) : Result := .next (bitSetReg 5 .h s)

/-- `SET 5,L` (45 R315). -/
def execSet5L (s : State) : Result := .next (bitSetReg 5 .l s)

/-- `SET 5,(HL)` (45 R316). -/
def execSet5IndHl (s : State) : Result := .next (bitSetHl 5 s)

/-- `SET 5,A` (45 R315). -/
def execSet5A (s : State) : Result := .next (bitSetReg 5 .a s)

/-- `SET 6,B` (45 R315). -/
def execSet6B (s : State) : Result := .next (bitSetReg 6 .b s)

/-- `SET 6,C` (45 R315). -/
def execSet6C (s : State) : Result := .next (bitSetReg 6 .c s)

/-- `SET 6,D` (45 R315). -/
def execSet6D (s : State) : Result := .next (bitSetReg 6 .d s)

/-- `SET 6,E` (45 R315). -/
def execSet6E (s : State) : Result := .next (bitSetReg 6 .e s)

/-- `SET 6,H` (45 R315). -/
def execSet6H (s : State) : Result := .next (bitSetReg 6 .h s)

/-- `SET 6,L` (45 R315). -/
def execSet6L (s : State) : Result := .next (bitSetReg 6 .l s)

/-- `SET 6,(HL)` (45 R316). -/
def execSet6IndHl (s : State) : Result := .next (bitSetHl 6 s)

/-- `SET 6,A` (45 R315). -/
def execSet6A (s : State) : Result := .next (bitSetReg 6 .a s)

/-- `SET 7,B` (45 R315). -/
def execSet7B (s : State) : Result := .next (bitSetReg 7 .b s)

/-- `SET 7,C` (45 R315). -/
def execSet7C (s : State) : Result := .next (bitSetReg 7 .c s)

/-- `SET 7,D` (45 R315). -/
def execSet7D (s : State) : Result := .next (bitSetReg 7 .d s)

/-- `SET 7,E` (45 R315). -/
def execSet7E (s : State) : Result := .next (bitSetReg 7 .e s)

/-- `SET 7,H` (45 R315). -/
def execSet7H (s : State) : Result := .next (bitSetReg 7 .h s)

/-- `SET 7,L` (45 R315). -/
def execSet7L (s : State) : Result := .next (bitSetReg 7 .l s)

/-- `SET 7,(HL)` (45 R316). -/
def execSet7IndHl (s : State) : Result := .next (bitSetHl 7 s)

/-- `SET 7,A` (45 R315). -/
def execSet7A (s : State) : Result := .next (bitSetReg 7 .a s)

end Sys2Proof.Machine
end

