-- ==== Sys2Proof/Machine/Flow.lean ====
section
/-! DEFINITION. Control flow (spec/46_control_flow.md R330 to R343). No flag changes. `s.cpu.pc` is the
address of the instruction's first byte. -/

namespace Sys2Proof.Machine

/-! ## Shared operations -/

/-- `JP nn` (46 R330). -/
def jumpTo (nn : Word) (s : State) : State := s.jump nn 16

/-- `JP cc,nn` (46 R331). -/
def jumpIf (cc : Cond) (nn : Word) (s : State) : State :=
  if condHolds cc s.cpu.flags then s.jump nn 16 else s.advance 3#16 12

/-- `JP HL` (46 R332). -/
def jumpHl (s : State) : State := s.jump s.cpu.hl 4

/-- The target of a relative jump: from the address after the instruction (46 R333). -/
def relTarget (pc : Word) (e : Byte) : Word := pc + 2#16 + sext16 e

/-- `JR e` (46 R333). -/
def jumpRel (e : Byte) (s : State) : State := s.jump (relTarget s.cpu.pc e) 12

/-- `JR cc,e` (46 R334). -/
def jumpRelIf (cc : Cond) (e : Byte) (s : State) : State :=
  if condHolds cc s.cpu.flags then s.jump (relTarget s.cpu.pc e) 12 else s.advance 2#16 8

/-- `CALL nn` (46 R335): the return address is the next instruction's. -/
def callTo (nn : Word) (s : State) : State := (push16 s (s.cpu.pc + 3#16)).jump nn 24

/-- `CALL cc,nn` (46 R336): nothing is pushed when the condition fails. -/
def callIf (cc : Cond) (nn : Word) (s : State) : State :=
  if condHolds cc s.cpu.flags then callTo nn s else s.advance 3#16 12

/-- `RET` (46 R337). -/
def returnTo (s : State) : State :=
  let (target, s1) := pop16 s
  s1.jump target 16

/-- `RET cc` (46 R338): taken, it costs 4 ticks more than RET. -/
def returnIf (cc : Cond) (s : State) : State :=
  if condHolds cc s.cpu.flags then
    let (target, s1) := pop16 s
    s1.jump target 20
  else s.advance 1#16 8

/-- `RST t` with `t = 8 * y` (46 R339). -/
def restart (y : Fin 8) (s : State) : State :=
  (push16 s (s.cpu.pc + 1#16)).jump (BitVec.ofNat 16 (8 * y.val)) 16

/-! ## One meaning an instruction -/

/-- `JR e` (46 R333). -/
def execJrOff (e : Byte) (s : State) : Result := .next (jumpRel e s)

/-- `JR NZ,e` (46 R334). -/
def execJrNzOff (e : Byte) (s : State) : Result := .next (jumpRelIf .nz e s)

/-- `JR Z,e` (46 R334). -/
def execJrZOff (e : Byte) (s : State) : Result := .next (jumpRelIf .z e s)

/-- `JR NC,e` (46 R334). -/
def execJrNcOff (e : Byte) (s : State) : Result := .next (jumpRelIf .nc e s)

/-- `JR C,e` (46 R334). -/
def execJrCOff (e : Byte) (s : State) : Result := .next (jumpRelIf .c e s)

/-- `RET NZ` (46 R338). -/
def execRetNz (s : State) : Result := .next (returnIf .nz s)

/-- `JP NZ,nn` (46 R331). -/
def execJpNzN16 (nn : Word) (s : State) : Result := .next (jumpIf .nz nn s)

/-- `JP nn` (46 R330). -/
def execJpN16 (nn : Word) (s : State) : Result := .next (jumpTo nn s)

/-- `CALL NZ,nn` (46 R336). -/
def execCallNzN16 (nn : Word) (s : State) : Result := .next (callIf .nz nn s)

/-- `RST 0x00` (46 R339). -/
def execRst00 (s : State) : Result := .next (restart 0 s)

/-- `RET Z` (46 R338). -/
def execRetZ (s : State) : Result := .next (returnIf .z s)

/-- `RET` (46 R337). -/
def execRet (s : State) : Result := .next (returnTo s)

/-- `JP Z,nn` (46 R331). -/
def execJpZN16 (nn : Word) (s : State) : Result := .next (jumpIf .z nn s)

/-- `CALL Z,nn` (46 R336). -/
def execCallZN16 (nn : Word) (s : State) : Result := .next (callIf .z nn s)

/-- `CALL nn` (46 R335). -/
def execCallN16 (nn : Word) (s : State) : Result := .next (callTo nn s)

/-- `RST 0x08` (46 R339). -/
def execRst08 (s : State) : Result := .next (restart 1 s)

/-- `RET NC` (46 R338). -/
def execRetNc (s : State) : Result := .next (returnIf .nc s)

/-- `JP NC,nn` (46 R331). -/
def execJpNcN16 (nn : Word) (s : State) : Result := .next (jumpIf .nc nn s)

/-- `CALL NC,nn` (46 R336). -/
def execCallNcN16 (nn : Word) (s : State) : Result := .next (callIf .nc nn s)

/-- `RST 0x10` (46 R339). -/
def execRst10 (s : State) : Result := .next (restart 2 s)

/-- `RET C` (46 R338). -/
def execRetC (s : State) : Result := .next (returnIf .c s)

/-- `RETI` (46 R340). -/
def execReti (s : State) : Result := .next (returnFromInterrupt s)

/-- `JP C,nn` (46 R331). -/
def execJpCN16 (nn : Word) (s : State) : Result := .next (jumpIf .c nn s)

/-- `CALL C,nn` (46 R336). -/
def execCallCN16 (nn : Word) (s : State) : Result := .next (callIf .c nn s)

/-- `RST 0x18` (46 R339). -/
def execRst18 (s : State) : Result := .next (restart 3 s)

/-- `RST 0x20` (46 R339). -/
def execRst20 (s : State) : Result := .next (restart 4 s)

/-- `JP HL` (46 R332). -/
def execJpHl (s : State) : Result := .next (jumpHl s)

/-- `RST 0x28` (46 R339). -/
def execRst28 (s : State) : Result := .next (restart 5 s)

/-- `RST 0x30` (46 R339). -/
def execRst30 (s : State) : Result := .next (restart 6 s)

/-- `RST 0x38` (46 R339). -/
def execRst38 (s : State) : Result := .next (restart 7 s)

end Sys2Proof.Machine
end

