-- ==== Sys2Proof/Machine/Loads16.lean ====
section
/-! DEFINITION. The 16-bit loads and the stack instructions (spec/42_loads_16bit_stack.md R230 to R235). -/

namespace Sys2Proof.Machine

/-! ## Shared operations -/

/-- `LD rr,nn` (42 R230). -/
def loadPair (p : Pair) (nn : Word) (s : State) : State := (s.mapCpu (fun c => c.setPair p nn)).advance 3#16 12

/-- `LD (nn),SP` (42 R231). -/
def storeSp (nn : Word) (s : State) : State := (memWrite16 s nn s.cpu.sp).advance 3#16 20

/-- `LD SP,HL` (42 R232). -/
def loadSpHl (s : State) : State := (s.setSp s.cpu.hl).advance 1#16 8

/-- `LD HL,SP+e` (42 R233). -/
def loadHlSpOff (e : Byte) (s : State) : State :=
  let (r, f) := spPlusE s.cpu.sp e
  (s.mapCpu (fun c => { c.setHl r with flags := f })).advance 2#16 12

/-- `PUSH rr` (42 R234). -/
def pushPair (p : StackPair) (s : State) : State := (push16 s (s.cpu.stackPair p)).advance 1#16 16

/-- `POP rr` (42 R235). -/
def popPair (p : StackPair) (s : State) : State :=
  let (v, s1) := pop16 s
  (s1.mapCpu (fun c => c.setStackPair p v)).advance 1#16 12

/-! ## One meaning an instruction -/

/-- `LD BC,nn` (42 R230). -/
def execLdBcN16 (nn : Word) (s : State) : Result := .next (loadPair .bc nn s)

/-- `LD (nn),SP` (42 R231). -/
def execLdIndN16Sp (nn : Word) (s : State) : Result := .next (storeSp nn s)

/-- `LD DE,nn` (42 R230). -/
def execLdDeN16 (nn : Word) (s : State) : Result := .next (loadPair .de nn s)

/-- `LD HL,nn` (42 R230). -/
def execLdHlN16 (nn : Word) (s : State) : Result := .next (loadPair .hl nn s)

/-- `LD SP,nn` (42 R230). -/
def execLdSpN16 (nn : Word) (s : State) : Result := .next (loadPair .sp nn s)

/-- `POP BC` (42 R235). -/
def execPopBc (s : State) : Result := .next (popPair .bc s)

/-- `PUSH BC` (42 R234). -/
def execPushBc (s : State) : Result := .next (pushPair .bc s)

/-- `POP DE` (42 R235). -/
def execPopDe (s : State) : Result := .next (popPair .de s)

/-- `PUSH DE` (42 R234). -/
def execPushDe (s : State) : Result := .next (pushPair .de s)

/-- `POP HL` (42 R235). -/
def execPopHl (s : State) : Result := .next (popPair .hl s)

/-- `PUSH HL` (42 R234). -/
def execPushHl (s : State) : Result := .next (pushPair .hl s)

/-- `POP AF` (42 R235). -/
def execPopAf (s : State) : Result := .next (popPair .af s)

/-- `PUSH AF` (42 R234). -/
def execPushAf (s : State) : Result := .next (pushPair .af s)

/-- `LD HL,SP+e` (42 R233). -/
def execLdHlSpOff (e : Byte) (s : State) : Result := .next (loadHlSpOff e s)

/-- `LD SP,HL` (42 R232). -/
def execLdSpHl (s : State) : Result := .next (loadSpHl s)

end Sys2Proof.Machine
end

