-- ==== Sys2Proof/Machine/Loads8.lean ====
section
/-! DEFINITION. The 8-bit loads and stores (spec/41_loads_8bit.md R200 to R219). No flag changes. -/

namespace Sys2Proof.Machine

/-! ## Shared operations -/

/-- `LD r,r'` (41 R200). -/
def loadReg (dst src : Reg8) (s : State) : State := (s.mapCpu (fun c => c.setReg dst (c.reg src))).advance 1#16 4

/-- `LD r,n` (41 R201). -/
def loadImm (dst : Reg8) (n : Byte) (s : State) : State := (s.mapCpu (fun c => c.setReg dst n)).advance 2#16 8

/-- `LD r,(HL)` (41 R202). -/
def loadFromHl (dst : Reg8) (s : State) : State :=
  let (v, s1) := readHl s
  (s1.mapCpu (fun c => c.setReg dst v)).advance 1#16 8

/-- `LD (HL),r` (41 R203). -/
def storeToHl (r : Reg8) (s : State) : State := (writeHl s (s.cpu.reg r)).advance 1#16 8

/-- `LD (HL),n` (41 R204). -/
def storeImmToHl (n : Byte) (s : State) : State := (writeHl s n).advance 2#16 12

/-- A load of A from `ea` (41 R205, R206, R209, R211, R213). -/
def loadA (ea len : Word) (ticks : Nat) (s : State) : State :=
  let (v, s1) := busRead s ea
  (s1.mapCpu (fun c => { c with a := v })).advance len ticks

/-- A store of A to `ea` (41 R207, R208, R210, R212, R214). -/
def storeA (ea len : Word) (ticks : Nat) (s : State) : State := (busWrite s ea s.cpu.a).advance len ticks

/-- `LD A,(HL+)` and `LD A,(HL-)` (41 R215, R217): the access at the old HL, then the step. -/
def loadAStep (delta : Word) (s : State) : State :=
  let (v, s1) := readHl s
  ((s1.mapCpu (fun c => { c with a := v })).stepHl delta).advance 1#16 8

/-- `LD (HL+),A` and `LD (HL-),A` (41 R216, R218): the access at the old HL, then the step. -/
def storeAStep (delta : Word) (s : State) : State := ((writeHl s s.cpu.a).stepHl delta).advance 1#16 8

/-! ## One meaning an instruction -/

/-- `LD (BC),A` (41 R207). -/
def execLdIndBcA (s : State) : Result := .next (storeA s.cpu.bc 1#16 8 s)

/-- `LD B,n` (41 R201). -/
def execLdBN8 (n : Byte) (s : State) : Result := .next (loadImm .b n s)

/-- `LD A,(BC)` (41 R205). -/
def execLdAIndBc (s : State) : Result := .next (loadA s.cpu.bc 1#16 8 s)

/-- `LD C,n` (41 R201). -/
def execLdCN8 (n : Byte) (s : State) : Result := .next (loadImm .c n s)

/-- `LD (DE),A` (41 R208). -/
def execLdIndDeA (s : State) : Result := .next (storeA s.cpu.de 1#16 8 s)

/-- `LD D,n` (41 R201). -/
def execLdDN8 (n : Byte) (s : State) : Result := .next (loadImm .d n s)

/-- `LD A,(DE)` (41 R206). -/
def execLdAIndDe (s : State) : Result := .next (loadA s.cpu.de 1#16 8 s)

/-- `LD E,n` (41 R201). -/
def execLdEN8 (n : Byte) (s : State) : Result := .next (loadImm .e n s)

/-- `LD (HL+),A` (41 R218). -/
def execLdIndHlIncA (s : State) : Result := .next (storeAStep 1#16 s)

/-- `LD H,n` (41 R201). -/
def execLdHN8 (n : Byte) (s : State) : Result := .next (loadImm .h n s)

/-- `LD A,(HL+)` (41 R217). -/
def execLdAIndHlInc (s : State) : Result := .next (loadAStep 1#16 s)

/-- `LD L,n` (41 R201). -/
def execLdLN8 (n : Byte) (s : State) : Result := .next (loadImm .l n s)

/-- `LD (HL-),A` (41 R216). -/
def execLdIndHlDecA (s : State) : Result := .next (storeAStep (-1#16) s)

/-- `LD (HL),n` (41 R204). -/
def execLdIndHlN8 (n : Byte) (s : State) : Result := .next (storeImmToHl n s)

/-- `LD A,(HL-)` (41 R215). -/
def execLdAIndHlDec (s : State) : Result := .next (loadAStep (-1#16) s)

/-- `LD A,n` (41 R201). -/
def execLdAN8 (n : Byte) (s : State) : Result := .next (loadImm .a n s)

/-- `LD B,B` (41 R200). -/
def execLdBB (s : State) : Result := .next (loadReg .b .b s)

/-- `LD B,C` (41 R200). -/
def execLdBC (s : State) : Result := .next (loadReg .b .c s)

/-- `LD B,D` (41 R200). -/
def execLdBD (s : State) : Result := .next (loadReg .b .d s)

/-- `LD B,E` (41 R200). -/
def execLdBE (s : State) : Result := .next (loadReg .b .e s)

/-- `LD B,H` (41 R200). -/
def execLdBH (s : State) : Result := .next (loadReg .b .h s)

/-- `LD B,L` (41 R200). -/
def execLdBL (s : State) : Result := .next (loadReg .b .l s)

/-- `LD B,(HL)` (41 R202). -/
def execLdBIndHl (s : State) : Result := .next (loadFromHl .b s)

/-- `LD B,A` (41 R200). -/
def execLdBA (s : State) : Result := .next (loadReg .b .a s)

/-- `LD C,B` (41 R200). -/
def execLdCB (s : State) : Result := .next (loadReg .c .b s)

/-- `LD C,C` (41 R200). -/
def execLdCC (s : State) : Result := .next (loadReg .c .c s)

/-- `LD C,D` (41 R200). -/
def execLdCD (s : State) : Result := .next (loadReg .c .d s)

/-- `LD C,E` (41 R200). -/
def execLdCE (s : State) : Result := .next (loadReg .c .e s)

/-- `LD C,H` (41 R200). -/
def execLdCH (s : State) : Result := .next (loadReg .c .h s)

/-- `LD C,L` (41 R200). -/
def execLdCL (s : State) : Result := .next (loadReg .c .l s)

/-- `LD C,(HL)` (41 R202). -/
def execLdCIndHl (s : State) : Result := .next (loadFromHl .c s)

/-- `LD C,A` (41 R200). -/
def execLdCA (s : State) : Result := .next (loadReg .c .a s)

/-- `LD D,B` (41 R200). -/
def execLdDB (s : State) : Result := .next (loadReg .d .b s)

/-- `LD D,C` (41 R200). -/
def execLdDC (s : State) : Result := .next (loadReg .d .c s)

/-- `LD D,D` (41 R200). -/
def execLdDD (s : State) : Result := .next (loadReg .d .d s)

/-- `LD D,E` (41 R200). -/
def execLdDE (s : State) : Result := .next (loadReg .d .e s)

/-- `LD D,H` (41 R200). -/
def execLdDH (s : State) : Result := .next (loadReg .d .h s)

/-- `LD D,L` (41 R200). -/
def execLdDL (s : State) : Result := .next (loadReg .d .l s)

/-- `LD D,(HL)` (41 R202). -/
def execLdDIndHl (s : State) : Result := .next (loadFromHl .d s)

/-- `LD D,A` (41 R200). -/
def execLdDA (s : State) : Result := .next (loadReg .d .a s)

/-- `LD E,B` (41 R200). -/
def execLdEB (s : State) : Result := .next (loadReg .e .b s)

/-- `LD E,C` (41 R200). -/
def execLdEC (s : State) : Result := .next (loadReg .e .c s)

/-- `LD E,D` (41 R200). -/
def execLdED (s : State) : Result := .next (loadReg .e .d s)

/-- `LD E,E` (41 R200). -/
def execLdEE (s : State) : Result := .next (loadReg .e .e s)

/-- `LD E,H` (41 R200). -/
def execLdEH (s : State) : Result := .next (loadReg .e .h s)

/-- `LD E,L` (41 R200). -/
def execLdEL (s : State) : Result := .next (loadReg .e .l s)

/-- `LD E,(HL)` (41 R202). -/
def execLdEIndHl (s : State) : Result := .next (loadFromHl .e s)

/-- `LD E,A` (41 R200). -/
def execLdEA (s : State) : Result := .next (loadReg .e .a s)

/-- `LD H,B` (41 R200). -/
def execLdHB (s : State) : Result := .next (loadReg .h .b s)

/-- `LD H,C` (41 R200). -/
def execLdHC (s : State) : Result := .next (loadReg .h .c s)

/-- `LD H,D` (41 R200). -/
def execLdHD (s : State) : Result := .next (loadReg .h .d s)

/-- `LD H,E` (41 R200). -/
def execLdHE (s : State) : Result := .next (loadReg .h .e s)

/-- `LD H,H` (41 R200). -/
def execLdHH (s : State) : Result := .next (loadReg .h .h s)

/-- `LD H,L` (41 R200). -/
def execLdHL (s : State) : Result := .next (loadReg .h .l s)

/-- `LD H,(HL)` (41 R202). -/
def execLdHIndHl (s : State) : Result := .next (loadFromHl .h s)

/-- `LD H,A` (41 R200). -/
def execLdHA (s : State) : Result := .next (loadReg .h .a s)

/-- `LD L,B` (41 R200). -/
def execLdLB (s : State) : Result := .next (loadReg .l .b s)

/-- `LD L,C` (41 R200). -/
def execLdLC (s : State) : Result := .next (loadReg .l .c s)

/-- `LD L,D` (41 R200). -/
def execLdLD (s : State) : Result := .next (loadReg .l .d s)

/-- `LD L,E` (41 R200). -/
def execLdLE (s : State) : Result := .next (loadReg .l .e s)

/-- `LD L,H` (41 R200). -/
def execLdLH (s : State) : Result := .next (loadReg .l .h s)

/-- `LD L,L` (41 R200). -/
def execLdLL (s : State) : Result := .next (loadReg .l .l s)

/-- `LD L,(HL)` (41 R202). -/
def execLdLIndHl (s : State) : Result := .next (loadFromHl .l s)

/-- `LD L,A` (41 R200). -/
def execLdLA (s : State) : Result := .next (loadReg .l .a s)

/-- `LD (HL),B` (41 R203). -/
def execLdIndHlB (s : State) : Result := .next (storeToHl .b s)

/-- `LD (HL),C` (41 R203). -/
def execLdIndHlC (s : State) : Result := .next (storeToHl .c s)

/-- `LD (HL),D` (41 R203). -/
def execLdIndHlD (s : State) : Result := .next (storeToHl .d s)

/-- `LD (HL),E` (41 R203). -/
def execLdIndHlE (s : State) : Result := .next (storeToHl .e s)

/-- `LD (HL),H` (41 R203). -/
def execLdIndHlH (s : State) : Result := .next (storeToHl .h s)

/-- `LD (HL),L` (41 R203). -/
def execLdIndHlL (s : State) : Result := .next (storeToHl .l s)

/-- `LD (HL),A` (41 R203). -/
def execLdIndHlA (s : State) : Result := .next (storeToHl .a s)

/-- `LD A,B` (41 R200). -/
def execLdAB (s : State) : Result := .next (loadReg .a .b s)

/-- `LD A,C` (41 R200). -/
def execLdAC (s : State) : Result := .next (loadReg .a .c s)

/-- `LD A,D` (41 R200). -/
def execLdAD (s : State) : Result := .next (loadReg .a .d s)

/-- `LD A,E` (41 R200). -/
def execLdAE (s : State) : Result := .next (loadReg .a .e s)

/-- `LD A,H` (41 R200). -/
def execLdAH (s : State) : Result := .next (loadReg .a .h s)

/-- `LD A,L` (41 R200). -/
def execLdAL (s : State) : Result := .next (loadReg .a .l s)

/-- `LD A,(HL)` (41 R202). -/
def execLdAIndHl (s : State) : Result := .next (loadFromHl .a s)

/-- `LD A,A` (41 R200). -/
def execLdAA (s : State) : Result := .next (loadReg .a .a s)

/-- `LDH (n),A` (41 R214). -/
def execLdhIndN8A (n : Byte) (s : State) : Result := .next (storeA (zeroPage n) 2#16 12 s)

/-- `LDH (C),A` (41 R212). -/
def execLdhIndCA (s : State) : Result := .next (storeA (zeroPage s.cpu.c) 1#16 8 s)

/-- `LD (nn),A` (41 R210). -/
def execLdIndN16A (nn : Word) (s : State) : Result := .next (storeA nn 3#16 16 s)

/-- `LDH A,(n)` (41 R213). -/
def execLdhAIndN8 (n : Byte) (s : State) : Result := .next (loadA (zeroPage n) 2#16 12 s)

/-- `LDH A,(C)` (41 R211). -/
def execLdhAIndC (s : State) : Result := .next (loadA (zeroPage s.cpu.c) 1#16 8 s)

/-- `LD A,(nn)` (41 R209). -/
def execLdAIndN16 (nn : Word) (s : State) : Result := .next (loadA nn 3#16 16 s)

end Sys2Proof.Machine
end

