-- ==== Sys2Proof/Machine/Rotates.lean ====
section
/-! DEFINITION. The four accumulator rotates (spec/45_rotates_shifts_bits.md R290 to R293). -/

namespace Sys2Proof.Machine

/-! ## Shared operations -/

/-- RLCA, RLA, RRCA, RRA (45 R290 to R293): the rotation of A, with Z always cleared. -/
def rotateA (op : RotOp) (s : State) : State :=
  let (r, c) := rotResult op s.cpu.a s.cpu.flags.c
  (s.mapCpu (fun k => { k with a := r, flags := rotAFlags c })).advance 1#16 4

/-! ## One meaning an instruction -/

/-- `RLCA` (45 R290). -/
def execRlca (s : State) : Result := .next (rotateA .rlc s)

/-- `RRCA` (45 R292). -/
def execRrca (s : State) : Result := .next (rotateA .rrc s)

/-- `RLA` (45 R291). -/
def execRla (s : State) : Result := .next (rotateA .rl s)

/-- `RRA` (45 R293). -/
def execRra (s : State) : Result := .next (rotateA .rr s)

end Sys2Proof.Machine
end

