-- ==== Sys2Proof/Machine/Ppu.lean ====
section
/-! DEFINITION. The PPU: the scanline mode sequencer, object selection and the pixel compositor
(spec/60_exceptions.md R400 to R420). -/

namespace Sys2Proof.Machine

/-- `VRAM[off]`, read by the PPU itself and so not locked out (20 R97). -/
def vramByte (m : Memory) (off : Nat) : Byte := m.read (0x8000 + off)

/-- `OAM[i]` (10 R62). -/
def oamByte (m : Memory) (i : Nat) : Byte := m.read (0xFE00 + i)

/-- The height of an object: LCDC bit 2 (10 R65; 60 R408). -/
def objectHeight (lcdc : Byte) : Nat := if lcdc.getLsbD 2 then 16 else 8

/-- Whether object `i` covers `line` (60 R408): its top edge is `Y - 16`, which may be negative. -/
def covers (m : Memory) (lcdc : Byte) (line : Nat) (i : Nat) : Bool :=
  let top : Int := (oamByte m (4 * i)).toNat - 16
  decide (top ≤ line) && decide ((line : Int) < top + objectHeight lcdc)

/-- `SelectObjects()` (60 R408): the first ten objects, in OAM order, that cover the line. -/
def selectObjects (m : Memory) (lcdc : Byte) (line : Nat) : List (Fin 40) :=
  ((List.finRange 40).filter (fun i => covers m lcdc line i.val)).take 10

/-- `Decode` (60 R415): two bytes a row, low plane first, bit 7 leftmost. -/
def tilePixel (m : Memory) (base cx cy : Nat) : BitVec 2 :=
  let lo := vramByte m (base + 2 * cy)
  let hi := vramByte m (base + 2 * cy + 1)
  BitVec.ofBool (hi.getLsbD (7 - cx)) ++ BitVec.ofBool (lo.getLsbD (7 - cx))

/-- `TileDataBase` (60 R413): LCDC bit 4 selects the record `idx`, or `256 + idx` for idx below 128. -/
def tileDataBase (lcdc idx : Byte) : Nat :=
  if lcdc.getLsbD 4 then 16 * idx.toNat
  else if idx.toNat < 128 then 16 * (256 + idx.toNat) else 16 * idx.toNat

/-- `BgPixel` (60 R412): the scroll registers are not used. -/
def bgPixel (m : Memory) (lcdc : Byte) (x line : Nat) : BitVec 2 :=
  let map := if lcdc.getLsbD 3 then 0x1C00 else 0x1800
  let idx := vramByte m (map + 32 * (line / 8) + x / 8)
  tilePixel m (tileDataBase lcdc idx) (x % 8) (line % 8)

/-- `ObjPixel` (60 R414): none where the object does not cover the column. The row `cy` is taken modulo 8
also where a write during Drawing has moved the object off the line: log 13. -/
def objPixel (m : Memory) (lcdc : Byte) (i x line : Nat) : Option (BitVec 2) :=
  let ox : Int := (oamByte m (4 * i + 1)).toNat - 8
  let oy : Int := (oamByte m (4 * i)).toNat - 16
  if ox ≤ x ∧ (x : Int) < ox + 8 then
    let attr := oamByte m (4 * i + 3)
    let h := objectHeight lcdc
    let cx : Nat := if attr.getLsbD 5 then 7 - (x - ox).toNat else (x - ox).toNat
    let cy : Int := if attr.getLsbD 6 then h - 1 - (line - oy) else line - oy
    let t := oamByte m (4 * i + 2)
    let t' := if h = 16 then (t &&& 0xFE#8) ||| (if 8 ≤ cy then 1#8 else 0#8) else t
    some (tilePixel m (16 * t'.toNat) cx (cy % 8).toNat)
  else none

/-- One slot of `SpritePixel` (60 R416): `best` is the colour kept so far with its object's X byte. -/
def spriteStep (m : Memory) (lcdc : Byte) (x line : Nat) (best : Option (BitVec 2 × Byte)) (i : Fin 40) :
    Option (BitVec 2 × Byte) :=
  match objPixel m lcdc i.val x line with
  | none => best
  | some c =>
    if c = 0#2 then best
    else
      let ix := oamByte m (4 * i.val + 1)
      match best with
      | none => some (c, ix)
      | some (_, bestx) => if ix < bestx then some (c, ix) else best

/-- `SpritePixel` (60 R416): the opaque candidate with the smallest X, the earlier slot at equal X. -/
def spritePixel (m : Memory) (lcdc : Byte) (slots : List (Fin 40)) (x line : Nat) : Option (BitVec 2) :=
  (slots.foldl (spriteStep m lcdc x line) none).map Prod.fst

/-- `Pixel` (60 R417): the sprite's nonzero index if there is one, else the background's. -/
def pixel (m : Memory) (lcdc : Byte) (slots : List (Fin 40)) (x line : Nat) : BitVec 2 :=
  match spritePixel m lcdc slots x line with
  | some c => c
  | none => bgPixel m lcdc x line

/-- `fb[line][x] <- c` (60 R418); a position outside the picture, which no run reaches, keeps nothing: log 21. -/
def Ppu.draw (p : Ppu) (c : BitVec 2) : Ppu :=
  if p.line < 144 ∧ p.x < 160 then { p with fb := sparseWrite 0#2 p.fb (160 * p.line + p.x) c } else p

/-- One line done: what HBlank and VBlank do when `dot` reaches 456 (60 R407, R409, R410), and whether the
VBlank interrupt is raised. -/
def Ppu.endLine (p : Ppu) : Ppu × Bool :=
  let q := { p with dot := p.dot - 456, line := p.line + 1 }
  match p.mode with
  | .vBlank => if q.line = 154 then ({ q with line := 0, mode := .oamScan }, false) else (q, false)
  | _ => if q.line = 144 then ({ q with mode := .vBlank }, true) else ({ q with mode := .oamScan }, false)

/-- `PpuDot()` (60 R401): the PPU after one dot, and whether it raises the VBlank interrupt. -/
def Ppu.dotStep (m : Memory) (p0 : Ppu) : Ppu × Bool :=
  let p := { p0 with dot := p0.dot + 1 }
  match p.mode with
  | .oamScan =>
    if 80 ≤ p.dot then ({ p with slots := selectObjects m p.lcdc p.line, mode := .drawing }, false)
    else (p, false)
  | .drawing =>
    let q := p.draw (pixel m p.lcdc p.slots p.x p.line)
    if p.x + 1 = 160 then ({ q with x := 0, mode := .hBlank }, false) else ({ q with x := p.x + 1 }, false)
  | .hBlank => if 456 ≤ p.dot then p.endLine else (p, false)
  | .vBlank => if 456 ≤ p.dot then p.endLine else (p, false)

/-- One dot in the machine: `Trigger(0)` on entering line 144 (60 R410). -/
def ppuDot (s : State) : State :=
  let (p, raised) := s.ppu.dotStep s.mem
  if raised then ({ s with ppu := p }).trigger .vBlank else { s with ppu := p }

/-- `PpuStep(n)` (60 R400). -/
def ppuStep : Nat → State → State
  | 0, s => s
  | n + 1, s => ppuStep n (ppuDot s)

end Sys2Proof.Machine
end

