-- ==== Sys2Proof/Machine/Timer.lean ====
section
/-! DEFINITION. The timer: the edge detector in its two orders and the overflow states
(spec/60_exceptions.md R380 to R389). -/

namespace Sys2Proof.Machine

/-- The counter bit that `tac_select` names (60 R382). -/
def selectedBit (select : BitVec 2) : Nat :=
  match select.toNat with
  | 0 => 9
  | 1 => 3
  | 2 => 5
  | _ => 7

/-- `sel_bit` (60 R382). -/
def Timer.selBit (t : Timer) : Bool := t.counter.getLsbD (selectedBit t.tacSelect)

/-- `Detect()`: whether this tick has an edge, and `last_bit` after it. DMG gates in front of the detector
(60 R383), CGB behind it (R384). -/
def Timer.detect (rev : Config.TimerRevision) (t : Timer) : Bool × Bool :=
  match rev with
  | .dmg => if t.tacEnable then (t.lastBit && !t.selBit, t.selBit) else (false, false)
  | .cgb => (t.lastBit && !t.selBit && t.tacEnable, t.selBit)

/-- `TimerTick()` (60 R381): the timer after one tick, and whether it raises the Timer interrupt. The arm
is chosen by `overflow` at the start of the tick. -/
def Timer.tick (rev : Config.TimerRevision) (t : Timer) : Timer × Bool :=
  let t1 := { t with counter := t.counter + 1#16 }
  let (edge, last) := t1.detect rev
  let t2 := { t1 with lastBit := last }
  match t.overflow with
  | .counting =>
    if edge then
      if t.tima = 0xFF#8 then ({ t2 with overflow := .willOverflow }, false)
      else ({ t2 with tima := t.tima + 1#8 }, false)
    else (t2, false)
  | .willOverflow => ({ t2 with tima := 0x00#8, overflow := .justOverflowed }, false)
  | .justOverflowed => ({ t2 with tima := t.tma, overflow := .counting }, true)

/-- One tick in the machine: `Trigger(2)` where the timer raises it (60 R387). -/
def timerTick (s : State) : State :=
  let (t, raised) := s.timer.tick s.cfg.timerRevision
  if raised then ({ s with timer := t }).trigger .timer else { s with timer := t }

/-- `TimerStep(n)` (60 R380). -/
def timerStep : Nat → State → State
  | 0, s => s
  | n + 1, s => timerStep n (timerTick s)

end Sys2Proof.Machine
end

