-- ==== Sys2Proof/Machine/Cycle.lean ====
section
/-! DEFINITION. The CPU step (spec/40_cpu_step_and_control.md R170 to R179) and the system step around it
(70_reset_and_hazards.md R460). -/

namespace Sys2Proof.Machine

/-- A change made to the next state, if there is one. -/
def onNext (f : State → State) (r : Result) : Result :=
  match r with
  | .next s => .next (f s)
  | .fault e => .fault e
  | .refused e => .refused e

/-- The instruction's bytes, each by a bus read in the order of their addresses (30 R143, R159; 20 R92,
R120): the opcode at PC and as many bytes after it as it needs. -/
def fetchBytes (s : State) : List Byte × State :=
  let (op, s1) := busRead s s.cpu.pc
  match operandBytes op with
  | 0 => ([op], s1)
  | 1 =>
    let (b1, s2) := busRead s1 (s.cpu.pc + 1#16)
    ([op, b1], s2)
  | _ =>
    let (b1, s2) := busRead s1 (s.cpu.pc + 1#16)
    let (b2, s3) := busRead s2 (s.cpu.pc + 2#16)
    ([op, b1, b2], s3)

/-- The start of Case 4: both latches are consumed, `ime_scheduled` into the step-local `en` (40 R175). -/
def beginInstruction (s : State) : State :=
  s.mapCpu (fun c => { c with haltBug := false, imeScheduled := false, en := c.imeScheduled })

/-- The end of Case 4: the halt bug's decrement of PC (40 R176), then the deferred enable (R177). -/
def endInstruction (bug : Bool) (s : State) : State :=
  s.mapCpu (fun c => { c with pc := if bug then c.pc - 1#16 else c.pc, ime := c.ime || c.en, en := false })

/-- Case 4 (40 R174): fetch, execute, end. -/
def normalStep (s : State) : Result :=
  let (bytes, s1) := fetchBytes (beginInstruction s)
  match decode bytes with
  | .error _ => .refused .truncatedFetch
  | .ok i => onNext (endInstruction s.cpu.haltBug) (exec i s1)

/-- Case 1 (40 R171): a halted CPU waits. -/
def waitStep (s : State) : State := s.spend 4

/-- Case 2 (40 R172): a halted CPU wakes, and does nothing else. -/
def wakeStep (s : State) : State := (s.mapCpu (fun c => { c with halted := false })).spend 4

/-- Case 3 (40 R173): one step of the sequencer. -/
def dispatchStep (s : State) : State := (sequencerStep s).spend 4

/-- `CpuStep()` (40 R170): exactly one of the four cases. -/
def cpuStep (s : State) : Result :=
  if s.cpu.halted then
    if s.irq.pending then .next (wakeStep s) else .next (waitStep s)
  else if s.irq.dispatch ≠ .idle ∨ (s.cpu.ime = true ∧ s.irq.pending = true) then .next (dispatchStep s)
  else normalStep s

/-- The devices' share of a system step (70 R460): all the timer's ticks, then all the PPU's dots. -/
def runDevices (s : State) : State := ppuStep s.cpu.ticks (timerStep s.cpu.ticks s)

/-- `SystemStep()` (70 R460). -/
def systemStep (s : State) : Result := onNext runDevices (cpuStep s)

/-- Bytes placed from `a` upwards. -/
def State.placeBytes (s : State) (a : Word) : List Byte → State
  | [] => s
  | v :: vs => (s.place a v).placeBytes (a + 1#16) vs

/-- The state in which nothing comes before Case 4: not halted, no dispatch under way, and none about to
begin. -/
def State.readyToFetch (s : State) : State :=
  { s with cpu := { s.cpu with halted := false, ime := s.cpu.ime && !s.irq.pending },
           irq := { s.irq with dispatch := .idle } }

end Sys2Proof.Machine
end

