-- ==== Sys2Proof/Machine/Step.lean ====
section
/-! DEFINITION. The machine's step, one system step (spec/70_reset_and_hazards.md R460), and a state that
runs a given instruction next. -/

namespace Sys2Proof.Machine

/-- One step of the machine: `SystemStep()` (70 R460). -/
def step (s : State) : Host.Outcome State Fault Refusal := systemStep s

/-- `s` with the instruction of a word of the opcode table stored where the next step fetches, and nothing
due before it. It stands for the load of the cartridge (70 R451): log 15. -/
def State.withFetchWord (s : State) (nbits w : Nat) : State :=
  s.readyToFetch.placeBytes s.cpu.pc (tableBytes nbits w)

end Sys2Proof.Machine
end

