-- ==== Sys2Proof/Machine/Frame.lean ====
section
/-! DEFINITION. What the host does between system steps (spec/70_reset_and_hazards.md R462 to R465). These
moves are no part of `step`: log 10. -/

namespace Sys2Proof.Machine

/-- The joypad collaborator's `Trigger(4)` (70 R465). -/
def hostJoypadEvent (s : State) : State := s.trigger .joypad

/-- The frame driver's `Trigger(0)` (70 R464). -/
def hostFrameEnd (s : State) : State := s.trigger .vBlank

/-- The ticks of one frame (70 R463). -/
def frameBudget : Nat := 70224

/-- The loop of `RunFrame` with `acc` ticks consumed: system steps until the budget is reached, then the
frame driver's request. A step takes at least 4 ticks, so fuel for a quarter of the budget is enough. -/
def runFrameFrom : Nat → Nat → State → Result
  | 0, _, s => .next (hostFrameEnd s)
  | fuel + 1, acc, s =>
    if frameBudget ≤ acc then .next (hostFrameEnd s)
    else
      match systemStep s with
      | .next s' => runFrameFrom fuel (acc + s'.cpu.ticks) s'
      | .fault e => .fault e
      | .refused e => .refused e

/-- `RunFrame()` (70 R463): `acc` starts from 0 at every call. -/
def runFrame (s : State) : Result := runFrameFrom 17556 0 s

end Sys2Proof.Machine
end

