-- ==== Sys2Proof/Safety.lean ====
section
/-! DEFINITION. What every state between steps satisfies (spec/10_state.md R77; 60_exceptions.md R405 to
R411), and the instructions that keep the flags (10 R37). -/

namespace Sys2Proof.Machine

/-- Where the PPU stands in a line, mode by mode (60 R405, R406, R407, R409; 10 R55 to R58). -/
def Ppu.inPlace (p : Ppu) : Bool :=
  match p.mode with
  | .oamScan => decide (p.dot < 80) && decide (p.line < 144) && decide (p.x = 0)
  | .drawing =>
    decide (80 ≤ p.dot) && decide (p.dot < 240) && decide (p.line < 144) && decide (p.dot = 80 + p.x)
  | .hBlank => decide (240 ≤ p.dot) && decide (p.dot < 456) && decide (p.line < 144) && decide (p.x = 0)
  | .vBlank => decide (p.dot < 456) && decide (144 ≤ p.line) && decide (p.line ≤ 153) && decide (p.x = 0)

/-- The selected objects: at most ten, in the order of OAM (60 R408). -/
def Ppu.slotsWf (p : Ppu) : Bool :=
  decide (p.slots.length ≤ 10) && decide (p.slots.Pairwise (fun i j => i.val < j.val))

/-- The invariant of the machine between steps. -/
structure State.Inv (s : State) : Prop where
  /-- Memory is in canonical form and lists only addresses that have storage. -/
  memory : s.mem.wf = true
  /-- The frame buffer is in canonical form and lists only positions of the picture. -/
  picture : fbWf s.ppu.fb = true
  /-- The PPU's mode, dot, line and column agree. -/
  ppu : s.ppu.inPlace = true
  slots : s.ppu.slotsWf = true
  /-- A halted CPU has no dispatch under way (10 R77). -/
  waiting : s.cpu.halted = true → s.irq.dispatch = .idle
  /-- The step-local `en` is false between steps (log 6). -/
  latch : s.cpu.en = false

end Sys2Proof.Machine

namespace Sys2Proof

/-- The instructions that change no flag (10 R37): the CPU control instructions, the undefined opcodes, the
loads and stores, PUSH, POP of the pairs other than AF, the 16-bit INC and DEC, the jumps, calls and returns,
RES and SET. -/
inductive Instr.KeepsFlags : Instr → Prop where
  | nop : KeepsFlags .nop
  | stop : KeepsFlags .stop
  | halt : KeepsFlags .halt
  | di : KeepsFlags .di
  | ei : KeepsFlags .ei
  | undefinedD3 : KeepsFlags .undefinedD3
  | undefinedDb : KeepsFlags .undefinedDb
  | undefinedDd : KeepsFlags .undefinedDd
  | undefinedE3 : KeepsFlags .undefinedE3
  | undefinedE4 : KeepsFlags .undefinedE4
  | undefinedEb : KeepsFlags .undefinedEb
  | undefinedEc : KeepsFlags .undefinedEc
  | undefinedEd : KeepsFlags .undefinedEd
  | undefinedF4 : KeepsFlags .undefinedF4
  | undefinedFc : KeepsFlags .undefinedFc
  | undefinedFd : KeepsFlags .undefinedFd
  | ldReg (dst src : Reg8) : KeepsFlags (.mkLdReg dst src)
  | ldImm (n : Byte) (dst : Reg8) : KeepsFlags (.mkLdImm n dst)
  | ldFromHl (dst : Reg8) : KeepsFlags (.mkLdFromHl dst)
  | ldToHl (src : Reg8) : KeepsFlags (.mkLdToHl src)
  | ldIndHlN8 (n : Byte) : KeepsFlags (.ldIndHlN8 n)
  | ldAIndBc : KeepsFlags .ldAIndBc
  | ldAIndDe : KeepsFlags .ldAIndDe
  | ldIndBcA : KeepsFlags .ldIndBcA
  | ldIndDeA : KeepsFlags .ldIndDeA
  | ldAIndN16 (nn : Word) : KeepsFlags (.ldAIndN16 nn)
  | ldIndN16A (nn : Word) : KeepsFlags (.ldIndN16A nn)
  | ldhAIndC : KeepsFlags .ldhAIndC
  | ldhIndCA : KeepsFlags .ldhIndCA
  | ldhAIndN8 (n : Byte) : KeepsFlags (.ldhAIndN8 n)
  | ldhIndN8A (n : Byte) : KeepsFlags (.ldhIndN8A n)
  | ldAIndHlDec : KeepsFlags .ldAIndHlDec
  | ldIndHlDecA : KeepsFlags .ldIndHlDecA
  | ldAIndHlInc : KeepsFlags .ldAIndHlInc
  | ldIndHlIncA : KeepsFlags .ldIndHlIncA
  | ldPair (nn : Word) (p : Pair) : KeepsFlags (.mkLdPair nn p)
  | ldIndN16Sp (nn : Word) : KeepsFlags (.ldIndN16Sp nn)
  | ldSpHl : KeepsFlags .ldSpHl
  | push (p : StackPair) : KeepsFlags (.mkPush p)
  | pop (p : StackPair) (h : p ≠ .af) : KeepsFlags (.mkPop p)
  | incPair (p : Pair) : KeepsFlags (.mkIncPair p)
  | decPair (p : Pair) : KeepsFlags (.mkDecPair p)
  | jpN16 (nn : Word) : KeepsFlags (.jpN16 nn)
  | jp (nn : Word) (cc : Cond) : KeepsFlags (.mkJp nn cc)
  | jpHl : KeepsFlags .jpHl
  | jrOff (e : Byte) : KeepsFlags (.jrOff e)
  | jr (e : Byte) (cc : Cond) : KeepsFlags (.mkJr e cc)
  | callN16 (nn : Word) : KeepsFlags (.callN16 nn)
  | call (nn : Word) (cc : Cond) : KeepsFlags (.mkCall nn cc)
  | ret : KeepsFlags .ret
  | retIf (cc : Cond) : KeepsFlags (.mkRet cc)
  | reti : KeepsFlags .reti
  | rst (y : Fin 8) : KeepsFlags (.mkRst y)
  | resReg (b : Fin 8) (r : Reg8) : KeepsFlags (.mkResReg b r)
  | resHl (b : Fin 8) : KeepsFlags (.mkResHl b)
  | setReg (b : Fin 8) (r : Reg8) : KeepsFlags (.mkSetReg b r)
  | setHl (b : Fin 8) : KeepsFlags (.mkSetHl b)

end Sys2Proof
end

