-- ==== Sys2Proof/Certificates/Slice0/Obligations.lean ====
section
/-! DEFINITION. The statements for the provers: what the rules of spec/ say, in terms of the model. The
definitions under `Sys2Proof.Rules` write the rules' formulas over numbers and bits, apart from the model's
own functions. -/

namespace Sys2Proof.Rules

open Sys2Proof.Machine

/-! ## Shapes of a next state -/

/-- `s` with the CPU registers `c`, past an instruction of `len` bytes that reports `ticks`. -/
def past (s : State) (c : Cpu) (len : Word) (ticks : Nat) : State :=
  { s with cpu := { c with pc := c.pc + len, ticks := ticks } }

/-- `s` with the CPU registers `c`, PC at `target`, reporting `ticks`. -/
def gone (s : State) (c : Cpu) (target : Word) (ticks : Nat) : State :=
  { s with cpu := { c with pc := target, ticks := ticks } }

/-- The state after a bus read at each address of a list, in order. -/
def afterReads (s : State) : List Word → State
  | [] => s
  | a :: l => afterReads (busReadEffect s a) l

/-! ## The memory map (20 R95), by numbers -/

/-- An address whose bus writes store the byte, and the number of the byte that keeps it: an echo address
(20 R100) is the work RAM byte 0x2000 below. -/
def StoresAt (a : Word) (k : Nat) : Prop :=
  let n := a.toNat
  (((0x8000 ≤ n ∧ n < 0xA000) ∨ (0xC000 ≤ n ∧ n < 0xE000) ∨ (0xFE00 ≤ n ∧ n < 0xFEA0) ∨
      (0xFF80 ≤ n ∧ n < 0xFFFF)) ∧ k = n) ∨
    ((0xE000 ≤ n ∧ n < 0xFE00) ∧ k = n - 0x2000)

/-- The bytes a bus write at `a` may store to: the byte above, or all of OAM for a write to 0xFF46 outside
OamScan and Drawing (20 R113). -/
def MayStore (s : State) (a : Word) (k : Nat) : Prop :=
  StoresAt a k ∨ (a = 0xFF46#16 ∧ s.ppu.mode ≠ .oamScan ∧ s.ppu.mode ≠ .drawing ∧ 0xFE00 ≤ k ∧ k < 0xFEA0)

/-- The addresses of the map that no unit answers (20 R108). -/
def Unmapped (a : Word) : Prop :=
  let n := a.toNat
  (0xA000 ≤ n ∧ n ≤ 0xBFFF) ∨ (0xFEA0 ≤ n ∧ n ≤ 0xFEFF) ∨ (0xFF01 ≤ n ∧ n ≤ 0xFF03) ∨ (0xFF08 ≤ n ∧ n ≤ 0xFF0E) ∨
    (0xFF10 ≤ n ∧ n ≤ 0xFF3F) ∨ n = 0xFF45 ∨ (0xFF48 ≤ n ∧ n ≤ 0xFF7F)

/-! ## Flags and results, by numbers -/

/-- The flags of an 8-bit sum (43 R240): result `r` of `a + b + cin`. -/
def SumFlags (a b : Byte) (cin : Nat) (r : Byte) (f : Flags) : Prop :=
  r.toNat = (a.toNat + b.toNat + cin) % 256 ∧ (f.z = true ↔ r.toNat = 0) ∧ f.n = false ∧
    (f.h = true ↔ 0x0F < a.toNat % 16 + b.toNat % 16 + cin) ∧ (f.c = true ↔ 0xFF < a.toNat + b.toNat + cin)

/-- The flags of an 8-bit difference (43 R240): result `r` of `a - b - cin`. -/
def DifferenceFlags (a b : Byte) (cin : Nat) (r : Byte) (f : Flags) : Prop :=
  (r.toNat : Int) = ((a.toNat : Int) - b.toNat - cin) % 256 ∧ (f.z = true ↔ r.toNat = 0) ∧ f.n = true ∧
    (f.h = true ↔ a.toNat % 16 < b.toNat % 16 + cin) ∧ (f.c = true ↔ a.toNat < b.toNat + cin)

/-- The value A is left with and the flags, for the eight operations on A (43 R241 to R264). -/
def AluRule (op : AluOp) (a v : Byte) (cin : Bool) (a' : Byte) (f : Flags) : Prop :=
  match op with
  | .add => SumFlags a v 0 a' f
  | .adc => SumFlags a v (if cin then 1 else 0) a' f
  | .sub => DifferenceFlags a v 0 a' f
  | .sbc => DifferenceFlags a v (if cin then 1 else 0) a' f
  | .and => (∀ i, a'.getLsbD i = (a.getLsbD i && v.getLsbD i)) ∧ (f.z = true ↔ a'.toNat = 0) ∧ f.n = false ∧
      f.h = true ∧ f.c = false
  | .xor => (∀ i, a'.getLsbD i = (a.getLsbD i != v.getLsbD i)) ∧ (f.z = true ↔ a'.toNat = 0) ∧ f.n = false ∧
      f.h = false ∧ f.c = false
  | .or => (∀ i, a'.getLsbD i = (a.getLsbD i || v.getLsbD i)) ∧ (f.z = true ↔ a'.toNat = 0) ∧ f.n = false ∧
      f.h = false ∧ f.c = false
  | .cp => a' = a ∧ ∃ r, DifferenceFlags a v 0 r f

/-- The 8-bit increment (43 R265): C kept. -/
def IncRule (v : Byte) (f : Flags) (r : Byte) (f' : Flags) : Prop :=
  r.toNat = (v.toNat + 1) % 256 ∧ (f'.z = true ↔ r.toNat = 0) ∧ f'.n = false ∧ (f'.h = true ↔ v.toNat % 16 = 0xF) ∧
    f'.c = f.c

/-- The 8-bit decrement (43 R267): C kept. -/
def DecRule (v : Byte) (f : Flags) (r : Byte) (f' : Flags) : Prop :=
  r.toNat = (v.toNat + 255) % 256 ∧ (f'.z = true ↔ r.toNat = 0) ∧ f'.n = true ∧ (f'.h = true ↔ v.toNat % 16 = 0) ∧
    f'.c = f.c

/-- DAA (43 R269): the corrections added after an addition, or taken off after a subtraction. -/
def DaaRule (a : Byte) (f : Flags) (r : Byte) (f' : Flags) : Prop :=
  let high := f.c = true ∨ 0x99 < a.toNat
  let low := f.h = true ∨ 9 < a.toNat % 16
  (f.n = false → (r.toNat = (a.toNat + (if high then 0x60 else 0) + (if low then 0x06 else 0)) % 256) ∧
      (f'.c = true ↔ high)) ∧
    (f.n = true →
      ((r.toNat : Int) = ((a.toNat : Int) - (if f.c = true then 0x60 else 0) - (if f.h = true then 0x06 else 0)) % 256) ∧
        f'.c = f.c) ∧
    (f'.z = true ↔ r.toNat = 0) ∧ f'.n = f.n ∧ f'.h = false

/-- `ADD HL,rr` (44 R280): Z kept. -/
def AddHlRule (a b : Word) (f : Flags) (r : Word) (f' : Flags) : Prop :=
  r.toNat = (a.toNat + b.toNat) % 65536 ∧ f'.z = f.z ∧ f'.n = false ∧
    (f'.h = true ↔ 0x0FFF < a.toNat % 4096 + b.toNat % 4096) ∧ (f'.c = true ↔ 0xFFFF < a.toNat + b.toNat)

/-- `SpPlusE` with its flags (44 R283, R284): the offset is signed, the flags those of the unsigned sum of the
low bytes. -/
def SpPlusRule (sp : Word) (e : Byte) (r : Word) (f : Flags) : Prop :=
  (r.toNat : Int) = ((sp.toNat : Int) + e.toInt) % 65536 ∧ f.z = false ∧ f.n = false ∧
    (f.h = true ↔ 0x0F < sp.toNat % 16 + e.toNat % 16) ∧ (f.c = true ↔ 0xFF < sp.toNat % 256 + e.toNat)

/-- The eight rotates and shifts (45 R294): result `r` and carry out `c` of a byte and the old carry. -/
def RotRule (op : RotOp) (v : Byte) (cy : Bool) (r : Byte) (c : Bool) : Prop :=
  let old := if cy then 1 else 0
  match op with
  | .rlc => r.toNat = v.toNat * 2 % 256 + v.toNat / 128 ∧ (c = true ↔ 128 ≤ v.toNat)
  | .rrc => r.toNat = v.toNat / 2 + 128 * (v.toNat % 2) ∧ (c = true ↔ v.toNat % 2 = 1)
  | .rl => r.toNat = v.toNat * 2 % 256 + old ∧ (c = true ↔ 128 ≤ v.toNat)
  | .rr => r.toNat = v.toNat / 2 + 128 * old ∧ (c = true ↔ v.toNat % 2 = 1)
  | .sla => r.toNat = v.toNat * 2 % 256 ∧ (c = true ↔ 128 ≤ v.toNat)
  | .sra => r.toNat = v.toNat / 2 + 128 * (v.toNat / 128) ∧ (c = true ↔ v.toNat % 2 = 1)
  | .swap => r.toNat = v.toNat / 16 + 16 * (v.toNat % 16) ∧ c = false
  | .srl => r.toNat = v.toNat / 2 ∧ (c = true ↔ v.toNat % 2 = 1)

/-- Whether a condition holds (46 R341). -/
def Holds (cc : Cond) (f : Flags) : Prop :=
  match cc with
  | .nz => f.z = false
  | .z => f.z = true
  | .nc => f.c = false
  | .c => f.c = true

/-- `r` is the address `e` bytes, signed, past `pc + 2` (46 R333). -/
def RelRule (pc : Word) (e : Byte) (r : Word) : Prop :=
  (r.toNat : Int) = ((pc.toNat : Int) + 2 + e.toInt) % 65536

end Sys2Proof.Rules

namespace Sys2Proof.Rules

/-! ## Operand codes, by the rules' numbers -/

/-- The 8-bit operand code of a register (30 R145). -/
def code8 : Reg8 → Nat
  | .b => 0
  | .c => 1
  | .d => 2
  | .e => 3
  | .h => 4
  | .l => 5
  | .a => 7

/-- The code of `rp` (30 R146). -/
def codePair : Pair → Nat
  | .bc => 0
  | .de => 1
  | .hl => 2
  | .sp => 3

/-- The code of `rp2` (30 R147). -/
def codeStackPair : StackPair → Nat
  | .bc => 0
  | .de => 1
  | .hl => 2
  | .af => 3

/-- The condition code (30 R148). -/
def codeCond : Cond → Nat
  | .nz => 0
  | .z => 1
  | .nc => 2
  | .c => 3

/-- The code of an operation on A (30 R149). -/
def codeAlu : AluOp → Nat
  | .add => 0
  | .adc => 1
  | .sub => 2
  | .sbc => 3
  | .and => 4
  | .xor => 5
  | .or => 6
  | .cp => 7

/-- The code of a rotate or shift (30 R149). -/
def codeRot : RotOp → Nat
  | .rlc => 0
  | .rrc => 1
  | .rl => 2
  | .rr => 3
  | .sla => 4
  | .sra => 5
  | .swap => 6
  | .srl => 7

/-- A number as a byte. -/
def byte (n : Nat) : Byte := BitVec.ofNat 8 n

end Sys2Proof.Rules

open Sys2Proof Sys2Proof.Machine Sys2Proof.Rules

/-! ## The registers -/

/-- The register file (00 R12; 10 R30) and the pair views (10 R31), the places of the flags (R35) and F's low
nibble (R36): a register reads what was last written to it, and a write changes nothing else; a pair is its two
bytes, high byte first; a write of a pair sets the first-named register to the high byte and the other to the
low byte, and nothing else; F's low nibble reads 0 and a write of AF discards it. -/
def Obligations.RegistersAndPairs : Prop :=
  ∀ (c : Cpu) (r : Reg8) (b : Byte) (v : Word),
    (∀ r', (c.setReg r b).reg r' = if r' = r then b else c.reg r') ∧
    { c.setReg r b with a := c.a, b := c.b, c := c.c, d := c.d, e := c.e, h := c.h, l := c.l } = c ∧
    (c.stackPair .bc).toNat = 256 * c.b.toNat + c.c.toNat ∧ (c.stackPair .de).toNat = 256 * c.d.toNat + c.e.toNat ∧
    (c.stackPair .hl).toNat = 256 * c.h.toNat + c.l.toNat ∧
    (c.stackPair .af).toNat = 256 * c.a.toNat + (if c.flags.z then 128 else 0) + (if c.flags.n then 64 else 0) +
      (if c.flags.h then 32 else 0) + (if c.flags.c then 16 else 0) ∧
    (∀ p, c.setStackPair p v =
      match p with
      | .bc => { c with b := BitVec.ofNat 8 (v.toNat / 256), c := BitVec.ofNat 8 v.toNat }
      | .de => { c with d := BitVec.ofNat 8 (v.toNat / 256), e := BitVec.ofNat 8 v.toNat }
      | .hl => { c with h := BitVec.ofNat 8 (v.toNat / 256), l := BitVec.ofNat 8 v.toNat }
      | .af => { c with a := BitVec.ofNat 8 (v.toNat / 256),
                        flags := { z := v.getLsbD 7, n := v.getLsbD 6, h := v.getLsbD 5, c := v.getLsbD 4 } }) ∧
    (∀ p, (c.setStackPair p v).stackPair p = if p = .af then v &&& 0xFFF0#16 else v) ∧
    (∀ b', ({ c with b := b' } : Cpu).bc.toNat = 256 * b'.toNat + c.bc.toNat % 256) ∧
    c.pair .bc = c.stackPair .bc ∧ c.pair .de = c.stackPair .de ∧ c.pair .hl = c.stackPair .hl ∧ c.pair .sp = c.sp ∧
    c.setPair .bc v = c.setStackPair .bc v ∧ c.setPair .de v = c.setStackPair .de v ∧
    c.setPair .hl v = c.setStackPair .hl v ∧ c.setPair .sp v = { c with sp := v }

/-! ## The bus -/

/-- ROM, video RAM, work RAM, echo, OAM and high RAM (20 R96 to R101, R109): what a read gives and does, and
what a write changes. -/
def Obligations.StorageRegionsReadAndWrite : Prop :=
  ∀ (s : State) (a : Word) (v : Byte),
    (a.toNat < 0x8000 → busRead s a = (s.mem.read a.toNat, s) ∧ busWrite s a v = s) ∧
    (0x8000 ≤ a.toNat ∧ a.toNat < 0xA000 →
      busRead s a = (if s.ppu.mode = .drawing then 0xFF#8 else s.mem.read a.toNat, s)) ∧
    ((0xC000 ≤ a.toNat ∧ a.toNat < 0xE000) ∨ (0xFE00 ≤ a.toNat ∧ a.toNat < 0xFEA0) ∨
        (0xFF80 ≤ a.toNat ∧ a.toNat < 0xFFFF) →
      busRead s a = (s.mem.read a.toNat, s)) ∧
    (0xE000 ≤ a.toNat ∧ a.toNat < 0xFE00 →
      busRead s a = busRead s (a - 0x2000#16) ∧ busWrite s a v = busWrite s (a - 0x2000#16) v) ∧
    (∀ k, StoresAt a k →
      { busWrite s a v with mem := s.mem } = s ∧
        (∀ j, j ≠ k → (busWrite s a v).mem.read j = s.mem.read j) ∧
        (s.mem.wf = true → (busWrite s a v).mem.read k = v))

/-- A bus write changes no CPU register, no latch and no parameter, and no byte of memory but those it may
store to (20 R96 to R113). -/
def Obligations.BusWriteFrame : Prop :=
  ∀ (s : State) (a : Word) (v : Byte),
    (busWrite s a v).cpu = s.cpu ∧ (busWrite s a v).cfg = s.cfg ∧ (busWrite s a v).ppu.fb = s.ppu.fb ∧
    (busWrite s a v).ppu.mode = s.ppu.mode ∧ (busWrite s a v).ppu.dot = s.ppu.dot ∧
    (busWrite s a v).ppu.line = s.ppu.line ∧ (busWrite s a v).ppu.x = s.ppu.x ∧
    (busWrite s a v).ppu.slots = s.ppu.slots ∧ (busWrite s a v).irq.dispatch = s.irq.dispatch ∧
    ∀ k, ¬ MayStore s a k → (busWrite s a v).mem.read k = s.mem.read k

/-- The registers of the timer, the interrupt controller and the PPU as the bus reads and writes them (20
R105, R106, R107, R110; 10 R74), and the joypad port (R104).
The places and the ones read in TAC, LY and the PPU registers' addresses are the spec's own
choices (R50, R69 and R107: D17, D20); the joypad counter and trace are the model's (log 4, log 5). -/
def Obligations.IoRegistersReadAndWrite : Prop :=
  ∀ (s : State) (v : Byte),
    (busRead s 0xFF04#16 = (BitVec.ofNat 8 (s.timer.counter.toNat / 256), s) ∧
      busWrite s 0xFF04#16 v = { s with timer := { s.timer with counter := 0#16 } }) ∧
    (busRead s 0xFF05#16 = (s.timer.tima, s) ∧
      busWrite s 0xFF05#16 v = { s with timer := { s.timer with tima := v } }) ∧
    (busRead s 0xFF06#16 = (s.timer.tma, s) ∧
      busWrite s 0xFF06#16 v = { s with timer := { s.timer with tma := v, overflow := .counting } }) ∧
    (busRead s 0xFF07#16 = (0xF8#8 ||| ((BitVec.ofBool s.timer.tacEnable).setWidth 8 <<< 2) ||| s.timer.tacSelect.setWidth 8, s) ∧
      busWrite s 0xFF07#16 v = { s with timer := { s.timer with tacEnable := v.getLsbD 2, tacSelect := v.setWidth 2 } }) ∧
    (busRead s 0xFF0F#16 = (0xE0#8 ||| s.irq.request.setWidth 8, s) ∧
      busWrite s 0xFF0F#16 v = { s with irq := { s.irq with request := (v &&& 0x1F#8).setWidth 5 } }) ∧
    (busRead s 0xFFFF#16 = (0xE0#8 ||| s.irq.enable.setWidth 8, s) ∧
      busWrite s 0xFFFF#16 v = { s with irq := { s.irq with enable := (v &&& 0x1F#8).setWidth 5 } }) ∧
    (busRead s 0xFF40#16 = (s.ppu.lcdc, s) ∧ busWrite s 0xFF40#16 v = { s with ppu := { s.ppu with lcdc := v } }) ∧
    (busRead s 0xFF41#16 = (s.ppu.stat, s) ∧ busWrite s 0xFF41#16 v = { s with ppu := { s.ppu with stat := v } }) ∧
    (busRead s 0xFF42#16 = (s.ppu.scy, s) ∧ busWrite s 0xFF42#16 v = { s with ppu := { s.ppu with scy := v } }) ∧
    (busRead s 0xFF43#16 = (s.ppu.scx, s) ∧ busWrite s 0xFF43#16 v = { s with ppu := { s.ppu with scx := v } }) ∧
    (busRead s 0xFF44#16 = (BitVec.ofNat 8 s.ppu.line, s) ∧ busWrite s 0xFF44#16 v = s) ∧
    (busRead s 0xFF46#16 = (0xFF#8, s)) ∧
    (busRead s 0xFF47#16 = (s.ppu.bgp, s) ∧ busWrite s 0xFF47#16 v = { s with ppu := { s.ppu with bgp := v } }) ∧
    (busRead s 0xFF00#16 =
        (Config.joypadByte s.io.joypadReads, { s with io := { s.io with joypadReads := s.io.joypadReads + 1 } }) ∧
      busWrite s 0xFF00#16 v = { s with io := { s.io with joypadWrites := v :: s.io.joypadWrites } })

/-- The accesses that are absorbed: at an address no unit answers (20 R108) a read gives 0xFF and a write is
dropped; a DMA request in OamScan or Drawing (R112) does nothing; each makes one report (the trace is log 5). -/
def Obligations.AbsorbedAccessesOnlyReport : Prop :=
  ∀ (s : State) (a : Word) (v : Byte),
    (Unmapped a → busRead s a = (0xFF#8, { s with io := { s.io with diag := .unmappedRead a :: s.io.diag } }) ∧
      busWrite s a v = { s with io := { s.io with diag := .unmappedWrite a v :: s.io.diag } }) ∧
    (s.ppu.mode = .oamScan ∨ s.ppu.mode = .drawing →
      busWrite s 0xFF46#16 v = { s with io := { s.io with diag := .dmaRefused v :: s.io.diag } })

/-- OAM DMA in HBlank and VBlank (20 R113): each of the 160 bytes of OAM becomes what a bus read of its source
gives, in one write; no other byte and no unit changes. The reports of unmapped sources come in order.
The instant copy is the spec's decision D27; the
trace is log 5. -/
def Obligations.DmaCopiesOnePage : Prop :=
  ∀ (s : State) (v : Byte), s.mem.wf = true → s.ppu.mode = .hBlank ∨ s.ppu.mode = .vBlank →
    (∀ i, i < 160 →
      (busWrite s 0xFF46#16 v).mem.read (0xFE00 + i) = (busRead s (BitVec.ofNat 16 (256 * v.toNat + i))).1) ∧
    (∀ k, ¬ (0xFE00 ≤ k ∧ k < 0xFEA0) → (busWrite s 0xFF46#16 v).mem.read k = s.mem.read k) ∧
    (busWrite s 0xFF46#16 v).io.diag =
      (((List.range 160).map (fun i => BitVec.ofNat 16 (256 * v.toNat + i))).filterMap
        (fun a => if busDecode a = .unmapped then some (.unmappedRead a) else none)).reverse ++ s.io.diag ∧
    (busWrite s 0xFF46#16 v).io.joypadWrites = s.io.joypadWrites ∧
    { busWrite s 0xFF46#16 v with mem := s.mem, io := s.io } = s

/-- Memory in canonical form is determined by its bytes (log 3 names what an unlisted byte reads as): equal
bytes are equal lists. The form is the model's own. -/
def Obligations.CanonicalMemoryIsUnique : Prop :=
  ∀ m m' : Memory, m.wf = true → m'.wf = true → (∀ a, m.read a = m'.read a) → m = m'

/-! ## CPU control -/

/-- NOP (40 R180) and the undefined opcodes (R185; the report is log 5). -/
def Obligations.NopAndUndefinedOpcodesOnlyAdvance : Prop :=
  ∀ s : State, encode .nop = [0x00#8] ∧ exec .nop s = .next (past s s.cpu 1#16 4) ∧
    ∀ op i, (op, i) ∈ [(0xD3#8, Instr.undefinedD3), (0xDB#8, .undefinedDb), (0xDD#8, .undefinedDd),
        (0xE3#8, .undefinedE3), (0xE4#8, .undefinedE4), (0xEB#8, .undefinedEb), (0xEC#8, .undefinedEc),
        (0xED#8, .undefinedEd), (0xF4#8, .undefinedF4), (0xFC#8, .undefinedFc), (0xFD#8, .undefinedFd)] →
      encode i = [op] ∧
      exec i s = .next (past { s with io := { s.io with diag := .undefinedOpcode op s.cpu.pc :: s.io.diag } }
        s.cpu 1#16 4)

/-- HALT (40 R181): with IME clear and an interrupt pending the halt bug is armed, otherwise the CPU halts. STOP
(R182): the counter is zeroed and `stopped` set, PC moves by 2; after the step's four timer ticks the counter is
4. EI (R183) schedules the enable. DI (R184) clears IME, and with `DI_CANCELS_EI` the enable scheduled by the EI
before it (`en` is log 6).
`stopped` and what STOP leaves are the spec's
decision D11, DI's parameter D9. -/
def Obligations.HaltStopEiDi : Prop :=
  ∀ s : State,
    (encode .halt = [0x76#8] ∧
      (s.cpu.ime = false ∧ s.irq.request &&& s.irq.enable ≠ 0#5 →
        exec .halt s = .next (past s { s.cpu with haltBug := true } 1#16 4)) ∧
      (¬ (s.cpu.ime = false ∧ s.irq.request &&& s.irq.enable ≠ 0#5) →
        exec .halt s = .next (past s { s.cpu with halted := true } 1#16 4))) ∧
    (encode .stop = [0x10#8, 0x00#8] ∧ (∀ x, decode [0x10#8, x] = .ok .stop) ∧
      ∃ t, exec .stop s = .next t ∧
        t = past { s with timer := { s.timer with counter := 0#16 } } { s.cpu with stopped := true } 2#16 4 ∧
        (runDevices t).timer.counter = 4#16) ∧
    (encode .ei = [0xFB#8] ∧ encode .di = [0xF3#8] ∧
      exec .ei s = .next (past s { s.cpu with imeScheduled := true } 1#16 4) ∧
      exec .di s = .next (past s
        { s.cpu with ime := false, en := if s.cfg.diCancelsEi = true then false else s.cpu.en } 1#16 4))

/-! ## 8-bit loads -/

/-- `LD r,r'` (41 R200), `LD r,n` (R201), `LD r,(HL)` (R202), `LD (HL),r` (R203), `LD (HL),n` (R204). -/
def Obligations.LoadsAndStoresOfARegister : Prop :=
  ∀ (s : State) (dst src : Reg8) (n : Byte),
    (encode (.mkLdReg dst src) = [byte (0x40 + 8 * code8 dst + code8 src)] ∧
      exec (.mkLdReg dst src) s = .next (past s (s.cpu.setReg dst (s.cpu.reg src)) 1#16 4)) ∧
    (encode (.mkLdImm n dst) = [byte (0x06 + 8 * code8 dst), n] ∧
      exec (.mkLdImm n dst) s = .next (past s (s.cpu.setReg dst n) 2#16 8)) ∧
    (encode (.mkLdFromHl dst) = [byte (0x46 + 8 * code8 dst)] ∧
      exec (.mkLdFromHl dst) s =
        .next (past (busRead s s.cpu.hl).2 (s.cpu.setReg dst (busRead s s.cpu.hl).1) 1#16 8)) ∧
    (encode (.mkLdToHl src) = [byte (0x70 + code8 src)] ∧
      exec (.mkLdToHl src) s = .next (past (busWrite s s.cpu.hl (s.cpu.reg src)) s.cpu 1#16 8)) ∧
    (encode (.ldIndHlN8 n) = [0x36#8, n] ∧
      exec (.ldIndHlN8 n) s = .next (past (busWrite s s.cpu.hl n) s.cpu 2#16 12))

/-- The loads and stores of A (41 R205 to R214), each at its effective address (R219). -/
def Obligations.LoadsAndStoresOfA : Prop :=
  ∀ (s : State) (n : Byte) (nn : Word),
    let load := fun (a : Word) (len : Word) (ticks : Nat) =>
      (Host.Outcome.next (past (busRead s a).2 { s.cpu with a := (busRead s a).1 } len ticks) : Result)
    let store := fun (a : Word) (len : Word) (ticks : Nat) =>
      (Host.Outcome.next (past (busWrite s a s.cpu.a) s.cpu len ticks) : Result)
    (encode .ldAIndBc = [0x0A#8] ∧ exec .ldAIndBc s = load (joinBytes s.cpu.b s.cpu.c) 1#16 8) ∧
    (encode .ldAIndDe = [0x1A#8] ∧ exec .ldAIndDe s = load (joinBytes s.cpu.d s.cpu.e) 1#16 8) ∧
    (encode (.ldAIndN16 nn) = [0xFA#8, loByte nn, hiByte nn] ∧ exec (.ldAIndN16 nn) s = load nn 3#16 16) ∧
    (encode .ldhAIndC = [0xF2#8] ∧ exec .ldhAIndC s = load (BitVec.ofNat 16 (0xFF00 + s.cpu.c.toNat)) 1#16 8) ∧
    (encode (.ldhAIndN8 n) = [0xF0#8, n] ∧ exec (.ldhAIndN8 n) s = load (BitVec.ofNat 16 (0xFF00 + n.toNat)) 2#16 12) ∧
    (encode .ldIndBcA = [0x02#8] ∧ exec .ldIndBcA s = store (joinBytes s.cpu.b s.cpu.c) 1#16 8) ∧
    (encode .ldIndDeA = [0x12#8] ∧ exec .ldIndDeA s = store (joinBytes s.cpu.d s.cpu.e) 1#16 8) ∧
    (encode (.ldIndN16A nn) = [0xEA#8, loByte nn, hiByte nn] ∧ exec (.ldIndN16A nn) s = store nn 3#16 16) ∧
    (encode .ldhIndCA = [0xE2#8] ∧ exec .ldhIndCA s = store (BitVec.ofNat 16 (0xFF00 + s.cpu.c.toNat)) 1#16 8) ∧
    (encode (.ldhIndN8A n) = [0xE0#8, n] ∧ exec (.ldhIndN8A n) s = store (BitVec.ofNat 16 (0xFF00 + n.toNat)) 2#16 12)

/-- The forms that step HL (41 R215 to R218): the access at the old HL, then HL by one. -/
def Obligations.LoadsAndStoresStepHl : Prop :=
  ∀ s : State,
    let load := fun (hl : Word) => (Host.Outcome.next (past (busRead s s.cpu.hl).2
      { s.cpu with a := (busRead s s.cpu.hl).1, h := hiByte hl, l := loByte hl } 1#16 8) : Result)
    let store := fun (hl : Word) => (Host.Outcome.next (past (busWrite s s.cpu.hl s.cpu.a)
      { s.cpu with h := hiByte hl, l := loByte hl } 1#16 8) : Result)
    (encode .ldAIndHlDec = [0x3A#8] ∧ exec .ldAIndHlDec s = load (s.cpu.hl - 1#16)) ∧
    (encode .ldIndHlDecA = [0x32#8] ∧ exec .ldIndHlDecA s = store (s.cpu.hl - 1#16)) ∧
    (encode .ldAIndHlInc = [0x2A#8] ∧ exec .ldAIndHlInc s = load (s.cpu.hl + 1#16)) ∧
    (encode .ldIndHlIncA = [0x22#8] ∧ exec .ldIndHlIncA s = store (s.cpu.hl + 1#16))

/-! ## 16-bit loads and the stack -/

/-- `LD rr,nn` (42 R230), `LD (nn),SP` (R231), the low byte first, and `LD SP,HL` (R232). -/
def Obligations.LoadsOfAPairAndSp : Prop :=
  ∀ (s : State) (p : Pair) (nn : Word),
    (encode (.mkLdPair nn p) = [byte (0x01 + 16 * codePair p), loByte nn, hiByte nn] ∧
      exec (.mkLdPair nn p) s = .next (past s (s.cpu.setPair p nn) 3#16 12)) ∧
    (encode .ldSpHl = [0xF9#8] ∧ exec .ldSpHl s = .next (past s { s.cpu with sp := s.cpu.hl } 1#16 8)) ∧
    (encode (.ldIndN16Sp nn) = [0x08#8, loByte nn, hiByte nn] ∧
      exec (.ldIndN16Sp nn) s =
        .next (past (busWrite (busWrite s nn (loByte s.cpu.sp)) (nn + 1#16) (hiByte s.cpu.sp)) s.cpu 3#16 20))

/-- `LD HL,SP+e` (42 R233) and `ADD SP,e` (44 R283), by the shared function (R284). -/
def Obligations.SpPlusOffset : Prop :=
  ∀ (s : State) (e : Byte), encode (.ldHlSpOff e) = [0xF8#8, e] ∧ encode (.addSpOff e) = [0xE8#8, e] ∧
    ∃ r f, SpPlusRule s.cpu.sp e r f ∧
      exec (.ldHlSpOff e) s = .next (past s { s.cpu with h := hiByte r, l := loByte r, flags := f } 2#16 12) ∧
      exec (.addSpOff e) s = .next (past s { s.cpu with sp := r, flags := f } 2#16 16)

/-- `PUSH rr` (42 R234): the high byte at SP - 1, then the low byte at SP - 2, modulo 65536. `POP rr` (R235): the
low byte from SP, then the high byte from SP + 1; of F only bits 7 to 4. -/
def Obligations.PushAndPop : Prop :=
  ∀ (s : State) (p : StackPair),
    (encode (.mkPush p) = [byte (0xC5 + 16 * codeStackPair p)] ∧
      exec (.mkPush p) s = .next (past
        (busWrite (busWrite s (s.cpu.sp - 1#16) (hiByte (s.cpu.stackPair p))) (s.cpu.sp - 2#16)
          (loByte (s.cpu.stackPair p)))
        { s.cpu with sp := s.cpu.sp - 2#16 } 1#16 16)) ∧
    (encode (.mkPop p) = [byte (0xC1 + 16 * codeStackPair p)] ∧
      let (lo, s1) := busRead s s.cpu.sp
      let (hi, s2) := busRead s1 (s.cpu.sp + 1#16)
      exec (.mkPop p) s = .next (past s2 { s.cpu.setStackPair p (joinBytes hi lo) with sp := s.cpu.sp + 2#16 } 1#16 12))

/-- PUSH then POP of the same pair (42 R236) restores the pair and SP where the two bytes below SP are in
storage that keeps them and, in video RAM, the PPU is not in Drawing.
R236 is derived by the spec from R234 and R235. -/
def Obligations.PushThenPopRestores : Prop :=
  ∀ (s t u : State) (p : StackPair) (k k' : Nat), s.mem.wf = true →
    StoresAt (s.cpu.sp - 1#16) k → StoresAt (s.cpu.sp - 2#16) k' →
    (s.ppu.mode = .drawing → 0xA000 ≤ (s.cpu.sp - 2#16).toNat ∧ 0xA000 ≤ (s.cpu.sp - 1#16).toNat) →
    exec (.mkPush p) s = .next t → exec (.mkPop p) t = .next u →
    u.cpu.stackPair p = s.cpu.stackPair p ∧ u.cpu.sp = s.cpu.sp ∧ u.cpu.flags = s.cpu.flags

/-! ## 8-bit arithmetic -/

/-- The register forms of the eight operations on A (43 R241, R244, R247, R250, R253, R256, R259, R262). -/
def Obligations.AluOnARegister : Prop :=
  ∀ (s : State) (op : AluOp) (r : Reg8), encode (.mkAluReg op r) = [byte (0x80 + 8 * codeAlu op + code8 r)] ∧
    ∃ a f, AluRule op s.cpu.a (s.cpu.reg r) s.cpu.flags.c a f ∧
      exec (.mkAluReg op r) s = .next (past s { s.cpu with a := a, flags := f } 1#16 4)

/-- The `(HL)` forms (43 R242, R245, R248, R251, R254, R257, R260, R263). -/
def Obligations.AluOnTheByteAtHl : Prop :=
  ∀ (s : State) (op : AluOp), encode (.mkAluHl op) = [byte (0x86 + 8 * codeAlu op)] ∧
    ∃ a f, AluRule op s.cpu.a (busRead s s.cpu.hl).1 s.cpu.flags.c a f ∧
      exec (.mkAluHl op) s = .next (past (busRead s s.cpu.hl).2 { s.cpu with a := a, flags := f } 1#16 8)

/-- The immediate forms (43 R243, R246, R249, R252, R255, R258, R261, R264). -/
def Obligations.AluOnAnImmediate : Prop :=
  ∀ (s : State) (op : AluOp) (n : Byte), encode (.mkAluImm n op) = [byte (0xC6 + 8 * codeAlu op), n] ∧
    ∃ a f, AluRule op s.cpu.a n s.cpu.flags.c a f ∧
      exec (.mkAluImm n op) s = .next (past s { s.cpu with a := a, flags := f } 2#16 8)

/-- `INC r`, `DEC r` (43 R265, R267) and `INC (HL)`, `DEC (HL)` (R266, R268): one read and one write of the
same address, the flags from the value read. -/
def Obligations.IncrementAndDecrement : Prop :=
  ∀ (s : State) (r : Reg8),
    (encode (.mkInc r) = [byte (0x04 + 8 * code8 r)] ∧ ∃ v f, IncRule (s.cpu.reg r) s.cpu.flags v f ∧
      exec (.mkInc r) s = .next (past s { s.cpu.setReg r v with flags := f } 1#16 4)) ∧
    (encode (.mkDec r) = [byte (0x05 + 8 * code8 r)] ∧ ∃ v f, DecRule (s.cpu.reg r) s.cpu.flags v f ∧
      exec (.mkDec r) s = .next (past s { s.cpu.setReg r v with flags := f } 1#16 4)) ∧
    (encode .incIndHl = [0x34#8] ∧ ∃ v f, IncRule (busRead s s.cpu.hl).1 s.cpu.flags v f ∧
      exec .incIndHl s =
        .next (past (busWrite (busRead s s.cpu.hl).2 s.cpu.hl v) { s.cpu with flags := f } 1#16 12)) ∧
    (encode .decIndHl = [0x35#8] ∧ ∃ v f, DecRule (busRead s s.cpu.hl).1 s.cpu.flags v f ∧
      exec .decIndHl s =
        .next (past (busWrite (busRead s s.cpu.hl).2 s.cpu.hl v) { s.cpu with flags := f } 1#16 12))

/-- DAA (43 R269), CPL, SCF and CCF (R270, R271, R272). -/
def Obligations.DaaCplScfCcf : Prop :=
  ∀ s : State,
    (encode .daa = [0x27#8] ∧ ∃ a f, DaaRule s.cpu.a s.cpu.flags a f ∧
      exec .daa s = .next (past s { s.cpu with a := a, flags := f } 1#16 4)) ∧
    encode .cpl = [0x2F#8] ∧ encode .scf = [0x37#8] ∧ encode .ccf = [0x3F#8] ∧
    exec .cpl s = .next (past s
      { s.cpu with a := ~~~s.cpu.a, flags := { z := s.cpu.flags.z, n := true, h := true, c := s.cpu.flags.c } } 1#16 4) ∧
    exec .scf s = .next (past s
      { s.cpu with flags := { z := s.cpu.flags.z, n := false, h := false, c := true } } 1#16 4) ∧
    exec .ccf s = .next (past s
      { s.cpu with flags := { z := s.cpu.flags.z, n := false, h := false, c := !s.cpu.flags.c } } 1#16 4)

/-! ## 16-bit arithmetic -/

/-- `ADD HL,rr` (44 R280), `INC rr` (R281) and `DEC rr` (R282), which change no flag even where the pair wraps. -/
def Obligations.PairArithmetic : Prop :=
  ∀ (s : State) (p : Pair),
    (encode (.mkAddHl p) = [byte (0x09 + 16 * codePair p)] ∧
      ∃ r f, AddHlRule s.cpu.hl (s.cpu.pair p) s.cpu.flags r f ∧
        exec (.mkAddHl p) s = .next (past s { s.cpu with h := hiByte r, l := loByte r, flags := f } 1#16 8)) ∧
    (encode (.mkIncPair p) = [byte (0x03 + 16 * codePair p)] ∧
      exec (.mkIncPair p) s =
        .next (past s (s.cpu.setPair p (BitVec.ofNat 16 ((s.cpu.pair p).toNat + 1))) 1#16 8)) ∧
    (encode (.mkDecPair p) = [byte (0x0B + 16 * codePair p)] ∧
      exec (.mkDecPair p) s =
        .next (past s (s.cpu.setPair p (BitVec.ofNat 16 ((s.cpu.pair p).toNat + 65535))) 1#16 8))

/-! ## Rotates, shifts and bits -/

/-- RLCA, RLA, RRCA, RRA (45 R290 to R293), which clear Z whatever the result, and the extended rotates and shifts
of a register (R295, R297, R299, R301, R303, R305, R307, R309), which compute it. -/
def Obligations.RotatesOfAAndOfARegister : Prop :=
  ∀ (s : State) (op : RotOp) (r : Reg8),
    (∀ (i : Instr) (b : Byte),
      (op, i, b) ∈ [(RotOp.rlc, Instr.rlca, 0x07#8), (.rl, .rla, 0x17#8), (.rrc, .rrca, 0x0F#8), (.rr, .rra, 0x1F#8)] →
      encode i = [b] ∧ ∃ r c, RotRule op s.cpu.a s.cpu.flags.c r c ∧
        exec i s = .next (past s { s.cpu with a := r, flags := { z := false, n := false, h := false, c := c } } 1#16 4)) ∧
    (encode (.mkRotReg op r) = [0xCB#8, byte (8 * codeRot op + code8 r)] ∧
      ∃ v c, RotRule op (s.cpu.reg r) s.cpu.flags.c v c ∧
        exec (.mkRotReg op r) s = .next (past s
          { s.cpu.setReg r v with flags := { z := decide (v.toNat = 0), n := false, h := false, c := c } } 2#16 8))

/-- The extended rotates and shifts of the byte at HL (45 R296, R298, R300, R302, R304, R306, R308, R310): one
read, then one write of the same address. -/
def Obligations.RotatesOfTheByteAtHl : Prop :=
  ∀ (s : State) (op : RotOp), encode (.mkRotHl op) = [0xCB#8, byte (8 * codeRot op + 6)] ∧
    ∃ v c, RotRule op (busRead s s.cpu.hl).1 s.cpu.flags.c v c ∧
      exec (.mkRotHl op) s = .next (past (busWrite (busRead s s.cpu.hl).2 s.cpu.hl v)
        { s.cpu with flags := { z := decide (v.toNat = 0), n := false, h := false, c := c } } 2#16 16)

/-- BIT (45 R311, R312): Z is the complement of the tested bit, C is kept, nothing is written. RES and SET (R313 to
R316): one bit of the operand, the others and the flags kept; of the byte at HL, one read and one write. -/
def Obligations.BitTestResetSet : Prop :=
  ∀ (s : State) (b : Fin 8) (r : Reg8),
    let tested := fun (v : Byte) =>
      ({ z := decide (v.toNat / 2 ^ b.val % 2 = 0), n := false, h := true, c := s.cpu.flags.c } : Flags)
    (encode (.mkBitReg b r) = [0xCB#8, byte (0x40 + 8 * b.val + code8 r)] ∧
      exec (.mkBitReg b r) s = .next (past s { s.cpu with flags := tested (s.cpu.reg r) } 2#16 8)) ∧
    (encode (.mkBitHl b) = [0xCB#8, byte (0x46 + 8 * b.val)] ∧
      exec (.mkBitHl b) s = .next (past (busRead s s.cpu.hl).2
        { s.cpu with flags := tested (busRead s s.cpu.hl).1 } 2#16 12)) ∧
    (encode (.mkResReg b r) = [0xCB#8, byte (0x80 + 8 * b.val + code8 r)] ∧
      ∃ v, (∀ i, v.getLsbD i = ((s.cpu.reg r).getLsbD i && decide (i ≠ b.val))) ∧
        exec (.mkResReg b r) s = .next (past s (s.cpu.setReg r v) 2#16 8)) ∧
    (encode (.mkSetReg b r) = [0xCB#8, byte (0xC0 + 8 * b.val + code8 r)] ∧
      ∃ v, (∀ i, v.getLsbD i = ((s.cpu.reg r).getLsbD i || decide (i = b.val))) ∧
        exec (.mkSetReg b r) s = .next (past s (s.cpu.setReg r v) 2#16 8)) ∧
    (encode (.mkResHl b) = [0xCB#8, byte (0x86 + 8 * b.val)] ∧
      ∃ v, (∀ i, v.getLsbD i = ((busRead s s.cpu.hl).1.getLsbD i && decide (i ≠ b.val))) ∧
        exec (.mkResHl b) s = .next (past (busWrite (busRead s s.cpu.hl).2 s.cpu.hl v) s.cpu 2#16 16)) ∧
    (encode (.mkSetHl b) = [0xCB#8, byte (0xC6 + 8 * b.val)] ∧
      ∃ v, (∀ i, v.getLsbD i = ((busRead s s.cpu.hl).1.getLsbD i || decide (i = b.val))) ∧
        exec (.mkSetHl b) s = .next (past (busWrite (busRead s s.cpu.hl).2 s.cpu.hl v) s.cpu 2#16 16))

/-- The prefix (40 R186; 45 R317): it runs the extended instruction its second byte selects, and every second
byte selects one. The row's own constructor is log 8. -/
def Obligations.PrefixRunsTheExtendedInstruction : Prop :=
  ∀ (s : State) (op2 : Byte), ∃ i, decode [0xCB#8, op2] = .ok i ∧ i.wellFormed = true ∧ encode i = [0xCB#8, op2] ∧
    exec (.prefixCb op2) s = exec i s ∧ ∃ t, exec i s = .next t ∧ t.cpu.pc = s.cpu.pc + 2#16

/-! ## Control flow -/

/-- `JP nn`, `JP cc,nn`, `JP HL` (46 R330, R331, R332); `JR e`, `JR cc,e` (R333, R334), whose signed offset counts
from the address after the instruction. -/
def Obligations.Jumps : Prop :=
  ∀ (s : State) (cc : Cond) (nn : Word) (e : Byte),
    (encode (.jpN16 nn) = [0xC3#8, loByte nn, hiByte nn] ∧ exec (.jpN16 nn) s = .next (gone s s.cpu nn 16)) ∧
    (encode (.mkJp nn cc) = [byte (0xC2 + 8 * codeCond cc), loByte nn, hiByte nn] ∧
      (Holds cc s.cpu.flags → exec (.mkJp nn cc) s = .next (gone s s.cpu nn 16)) ∧
      (¬ Holds cc s.cpu.flags → exec (.mkJp nn cc) s = .next (past s s.cpu 3#16 12))) ∧
    (encode .jpHl = [0xE9#8] ∧ exec .jpHl s = .next (gone s s.cpu (joinBytes s.cpu.h s.cpu.l) 4)) ∧
    (∃ target, RelRule s.cpu.pc e target ∧
      (encode (.jrOff e) = [0x18#8, e] ∧ exec (.jrOff e) s = .next (gone s s.cpu target 12)) ∧
      (encode (.mkJr e cc) = [byte (0x20 + 8 * codeCond cc), e] ∧
        (Holds cc s.cpu.flags → exec (.mkJr e cc) s = .next (gone s s.cpu target 12)) ∧
        (¬ Holds cc s.cpu.flags → exec (.mkJr e cc) s = .next (past s s.cpu 2#16 8))))

/-- `CALL nn`, `CALL cc,nn` (46 R335, R336) and `RST t` (R339): the address of the next instruction pushed,
high byte first. -/
def Obligations.CallsPushTheReturnAddress : Prop :=
  ∀ (s : State) (cc : Cond) (nn : Word) (y : Fin 8),
    let call := fun (back target : Word) (ticks : Nat) => (Host.Outcome.next (gone
      (busWrite (busWrite s (s.cpu.sp - 1#16) (hiByte back)) (s.cpu.sp - 2#16) (loByte back))
      { s.cpu with sp := s.cpu.sp - 2#16 } target ticks) : Result)
    (encode (.callN16 nn) = [0xCD#8, loByte nn, hiByte nn] ∧
      exec (.callN16 nn) s = call (s.cpu.pc + 3#16) nn 24) ∧
    (encode (.mkCall nn cc) = [byte (0xC4 + 8 * codeCond cc), loByte nn, hiByte nn] ∧
      (Holds cc s.cpu.flags → exec (.mkCall nn cc) s = call (s.cpu.pc + 3#16) nn 24) ∧
      (¬ Holds cc s.cpu.flags → exec (.mkCall nn cc) s = .next (past s s.cpu 3#16 12))) ∧
    (encode (.mkRst y) = [byte (0xC7 + 8 * y.val)] ∧
      exec (.mkRst y) s = call (s.cpu.pc + 1#16) (BitVec.ofNat 16 (8 * y.val)) 16)

/-- RET, `RET cc` and RETI (46 R337, R338, R340): PC from the stack, low byte first; RETI sets IME at once.
RETI's
immediate enable is the spec's decision D10. -/
def Obligations.ReturnsPopThePc : Prop :=
  ∀ (s : State) (cc : Cond),
    let (lo, s1) := busRead s s.cpu.sp
    let (hi, s2) := busRead s1 (s.cpu.sp + 1#16)
    let back := fun (ime : Bool) (ticks : Nat) => (Host.Outcome.next (gone s2
      { s.cpu with sp := s.cpu.sp + 2#16, ime := ime } (joinBytes hi lo) ticks) : Result)
    (encode .ret = [0xC9#8] ∧ exec .ret s = back s.cpu.ime 16) ∧
    (encode (.mkRet cc) = [byte (0xC0 + 8 * codeCond cc)] ∧
      (Holds cc s.cpu.flags → exec (.mkRet cc) s = back s.cpu.ime 20) ∧
      (¬ Holds cc s.cpu.flags → exec (.mkRet cc) s = .next (past s s.cpu 1#16 8))) ∧
    (encode .reti = [0xD9#8] ∧ exec .reti s = back true 16)

/-! ## The CPU step and interrupts -/

/-- Cases 1, 2 and 3 of the CPU step (40 R171, R172, R173): the halted wait, the wake, which consults no IME,
and the sequencer's step; each reports 4 ticks and fetches nothing.
The wake as a step of
its own is the spec's decision D12. -/
def Obligations.WaitWakeAndDispatchSteps : Prop :=
  ∀ s : State,
    let pending := s.irq.request &&& s.irq.enable ≠ 0#5
    (s.cpu.halted = true → ¬ pending → cpuStep s = .next { s with cpu := { s.cpu with ticks := 4 } }) ∧
    (s.cpu.halted = true → pending → cpuStep s = .next { s with cpu := { s.cpu with halted := false, ticks := 4 } }) ∧
    (s.cpu.halted = false → s.irq.dispatch ≠ .idle ∨ (s.cpu.ime = true ∧ pending) →
      cpuStep s = .next { sequencerStep s with cpu := { (sequencerStep s).cpu with ticks := 4 } } ∧
        (sequencerStep s).cpu.haltBug = s.cpu.haltBug ∧ (sequencerStep s).cpu.imeScheduled = s.cpu.imeScheduled ∧
        (sequencerStep s).cpu.flags = s.cpu.flags)

/-- The sequencer (60 R362 to R369). It pushes PC, high byte first; at the last transition the lowest pending index,
chosen then, is the one served and its bit alone is cleared; with nothing pending PC goes to 0.
The transitions' steps
and the vectors are the spec's decisions D5 and D4. -/
def Obligations.SequencerTransitions : Prop :=
  ∀ s : State,
    (s.irq.dispatch = .idle → s.cpu.ime = true ∧ s.irq.request &&& s.irq.enable ≠ 0#5 →
      sequencerStep s = { s with cpu := { s.cpu with ime := false }, irq := { s.irq with dispatch := .nop0 } }) ∧
    (s.irq.dispatch = .idle → ¬ (s.cpu.ime = true ∧ s.irq.request &&& s.irq.enable ≠ 0#5) → sequencerStep s = s) ∧
    (s.irq.dispatch = .nop0 → sequencerStep s = { s with irq := { s.irq with dispatch := .nop1 } }) ∧
    (s.irq.dispatch = .nop1 → sequencerStep s = { s with irq := { s.irq with dispatch := .pcStore0 } }) ∧
    (s.irq.dispatch = .pcStore0 →
      let t := busWrite s (s.cpu.sp - 1#16) (BitVec.ofNat 8 (s.cpu.pc.toNat / 256))
      sequencerStep s =
        { t with cpu := { s.cpu with sp := s.cpu.sp - 1#16 }, irq := { t.irq with dispatch := .pcStore1 } }) ∧
    (s.irq.dispatch = .pcStore1 →
      let t := busWrite s (s.cpu.sp - 1#16) (BitVec.ofNat 8 s.cpu.pc.toNat)
      sequencerStep s =
        { t with cpu := { s.cpu with sp := s.cpu.sp - 1#16 }, irq := { t.irq with dispatch := .pcSet } }) ∧
    (s.irq.dispatch = .pcSet →
      (∀ k, k < 5 → (s.irq.request &&& s.irq.enable).getLsbD k = true →
        (∀ j, j < k → (s.irq.request &&& s.irq.enable).getLsbD j = false) →
        ∃ r : BitVec 5, (∀ j, r.getLsbD j = (s.irq.request.getLsbD j && decide (j ≠ k))) ∧
          sequencerStep s = { s with cpu := { s.cpu with pc := BitVec.ofNat 16 (0x0040 + 8 * k) },
                                     irq := { s.irq with request := r, dispatch := .idle } }) ∧
      (s.irq.request &&& s.irq.enable = 0#5 →
        sequencerStep s = { s with cpu := { s.cpu with pc := 0x0000#16 }, irq := { s.irq with dispatch := .idle } }))

namespace Sys2Proof.Rules

/-- `n` CPU steps, without the devices' ticks between them. -/
def cpuSteps : Nat → State → Result
  | 0, s => .next s
  | n + 1, s =>
    match cpuStep s with
    | .next t => cpuSteps n t
    | .fault e => .fault e
    | .refused e => .refused e

end Sys2Proof.Rules

/-- Taking an interrupt (60 R370, R371; 40 R173): from Idle with IME set and an interrupt pending, six CPU
steps enter the handler of the lowest pending index. PC alone is saved, in the two bytes below SP; IME and
the served bit are cleared. Here the two bytes are in storage and the devices' ticks between the steps, which
may raise further requests, are left out.
The count of six is the spec's decision D5. -/
def Obligations.DispatchEntersTheHandlerInSixSteps : Prop :=
  ∀ (s : State) (k k1 k2 : Nat), s.mem.wf = true → s.cpu.halted = false → s.irq.dispatch = .idle → s.cpu.ime = true → k < 5 →
    (s.irq.request &&& s.irq.enable).getLsbD k = true →
    (∀ j, j < k → (s.irq.request &&& s.irq.enable).getLsbD j = false) →
    StoresAt (s.cpu.sp - 1#16) k1 → StoresAt (s.cpu.sp - 2#16) k2 →
    ∃ t, cpuSteps 6 s = .next t ∧
      t.cpu = { s.cpu with pc := BitVec.ofNat 16 (0x0040 + 8 * k), sp := s.cpu.sp - 2#16, ime := false, ticks := 4 } ∧
      (∀ j, t.irq.request.getLsbD j = (s.irq.request.getLsbD j && decide (j ≠ k))) ∧ t.irq.enable = s.irq.enable ∧
      t.irq.dispatch = .idle ∧ t.mem.read k1 = BitVec.ofNat 8 (s.cpu.pc.toNat / 256) ∧
      t.mem.read k2 = BitVec.ofNat 8 s.cpu.pc.toNat ∧ (∀ j, j ≠ k1 → j ≠ k2 → t.mem.read j = s.mem.read j) ∧
      { t with cpu := s.cpu, irq := s.irq, mem := s.mem } = s

/-- A request (60 R360): one bit set, whatever IE and IME hold; asking twice is asking once; two requests
commute. -/
def Obligations.TriggerSetsOneRequestBit : Prop :=
  ∀ (s : State) (k k' : Interrupt),
    (∀ j, (s.trigger k).irq.request.getLsbD j = (s.irq.request.getLsbD j || decide (j = k.index))) ∧
    { s.trigger k with irq := { (s.trigger k).irq with request := s.irq.request } } = s ∧
    (s.trigger k).trigger k = s.trigger k ∧ (s.trigger k).trigger k' = (s.trigger k').trigger k

/-- What Case 4 fetches (30 R159, R143; 20 R92): the opcode at PC and then its operand bytes at increasing
addresses, as many as its instruction's encoding has (STOP's padding byte is not read).
The
order of the reads and STOP's unread byte are the spec's decision D34. -/
def Obligations.FetchReadsTheInstructionsBytes : Prop :=
  ∀ s : State, ∃ bytes i, fetchBytes s = (bytes, afterReads s
      ((List.range bytes.length).map (fun j => s.cpu.pc + BitVec.ofNat 16 j))) ∧
    decode bytes = .ok i ∧ i.wellFormed = true ∧
    (∀ j, j < bytes.length → bytes[j]? = some (busValue
      (afterReads s ((List.range j).map (fun m => s.cpu.pc + BitVec.ofNat 16 m))) (s.cpu.pc + BitVec.ofNat 16 j))) ∧
    (i ≠ .stop → encode i = bytes) ∧ (i = .stop → bytes = [0x10#8])

/-- A step runs the decoded instruction (40 R174 to R178; 70 R460): the latches are consumed, the bytes at PC
are fetched, the instruction they decode to is executed; PC is one lower if the halt bug was armed; IME is set
if EI had scheduled it; then the timer takes the ticks reported and after it the PPU.
The latches' moments are the
spec's decisions D7 and D8; `en` is log 6. -/
def Obligations.StepRunsTheDecodedInstruction : Prop :=
  ∀ (s s1 t : State) (bytes : List Byte) (i : Instr),
    s.cpu.halted = false → s.irq.dispatch = .idle →
    ¬ (s.cpu.ime = true ∧ s.irq.request &&& s.irq.enable ≠ 0#5) →
    fetchBytes { s with cpu := { s.cpu with haltBug := false, imeScheduled := false, en := s.cpu.imeScheduled } } =
      (bytes, s1) →
    decode bytes = .ok i → exec i s1 = .next t →
    step s = .next (ppuStep t.cpu.ticks (timerStep t.cpu.ticks
      { t with cpu := { t.cpu with pc := if s.cpu.haltBug = true then t.cpu.pc - 1#16 else t.cpu.pc,
                                   ime := t.cpu.ime || t.cpu.en, en := false } }))

/-- The halt bug (40 R175, R176): an armed bug changes nothing of the step but its final PC, which is one
lower.
The mechanism is the spec's decision D7. -/
def Obligations.HaltBugLeavesPcOneLower : Prop :=
  ∀ s t : State, s.cpu.halted = false → s.irq.dispatch = .idle →
    ¬ (s.cpu.ime = true ∧ s.irq.request &&& s.irq.enable ≠ 0#5) → s.cpu.haltBug = true →
    cpuStep { s with cpu := { s.cpu with haltBug := false } } = .next t →
    cpuStep s = .next { t with cpu := { t.cpu with pc := t.cpu.pc - 1#16 } }

/-- EI's latency (40 R175, R177, R184): the step that finds the enable scheduled ends with IME set and the
schedule consumed, unless the instruction is EI, which schedules again, or DI, after which IME is clear
exactly if `DI_CANCELS_EI`.
Spec decisions D8 and D9. -/
def Obligations.EnableTakesEffectAfterTheNextInstruction : Prop :=
  ∀ (s s1 t : State) (bytes : List Byte) (i : Instr),
    s.cpu.halted = false → s.irq.dispatch = .idle →
    ¬ (s.cpu.ime = true ∧ s.irq.request &&& s.irq.enable ≠ 0#5) → s.cpu.imeScheduled = true →
    fetchBytes (beginInstruction s) = (bytes, s1) → decode bytes = .ok i → cpuStep s = .next t →
    t.cpu.ime = (if i = .di then !s.cfg.diCancelsEi else true) ∧ t.cpu.imeScheduled = decide (i = .ei)

/-- No step fails (40 R179), and every step reports a multiple of 4 ticks from 4 to 24 (R178). -/
def Obligations.NoStepFails : Prop :=
  ∀ s : State, ∃ t u, cpuStep s = .next t ∧ step s = .next u ∧ u.cpu = t.cpu ∧
    t.cpu.ticks % 4 = 0 ∧ 4 ≤ t.cpu.ticks ∧ t.cpu.ticks ≤ 24

/-! ## The timer -/

namespace Sys2Proof.Rules

/-- The counter bit that a select value names (60 R382). -/
def selectBit (select : BitVec 2) : Nat :=
  if select = 0#2 then 9 else if select = 1#2 then 3 else if select = 2#2 then 5 else 7

/-- The selected bit after this tick's increment (60 R382). -/
def nextBit (t : Timer) : Bool :=
  decide ((t.counter.toNat + 1) % 65536 / 2 ^ selectBit t.tacSelect % 2 = 1)

/-- An edge on this tick (60 R383, R384): under either revision it needs the enable. -/
def Edge (t : Timer) : Prop := t.tacEnable = true ∧ t.lastBit = true ∧ nextBit t = false

/-- `last_bit` after this tick: under DMG held at 0 while disabled (60 R383), under CGB the bit itself (R384). -/
def lastAfter (rev : Config.TimerRevision) (t : Timer) : Bool :=
  if rev = .dmg ∧ t.tacEnable = false then false else nextBit t

/-- The timer after a tick, apart from TIMA and the overflow state. -/
def ticked (rev : Config.TimerRevision) (t : Timer) : Timer :=
  { t with counter := BitVec.ofNat 16 (t.counter.toNat + 1), lastBit := lastAfter rev t }

end Sys2Proof.Rules

/-- One timer tick (60 R381 to R387): the counter, the edge under both revisions, and the arm that the
overflow state selects.
The overflow arms and the two detectors are the spec's decisions D14, D15, D18, D35. -/
def Obligations.TimerTick : Prop :=
  ∀ s : State,
    let t := ticked s.cfg.timerRevision s.timer
    (s.timer.overflow = .counting → ¬ Edge s.timer → timerTick s = { s with timer := t }) ∧
    (s.timer.overflow = .counting → Edge s.timer → s.timer.tima ≠ 0xFF#8 →
      timerTick s = { s with timer := { t with tima := BitVec.ofNat 8 (s.timer.tima.toNat + 1) } }) ∧
    (s.timer.overflow = .counting → Edge s.timer → s.timer.tima = 0xFF#8 →
      timerTick s = { s with timer := { t with overflow := .willOverflow } }) ∧
    (s.timer.overflow = .willOverflow →
      timerTick s = { s with timer := { t with tima := 0x00#8, overflow := .justOverflowed } }) ∧
    (s.timer.overflow = .justOverflowed →
      timerTick s = { s with timer := { t with tima := s.timer.tma, overflow := .counting },
                             irq := { s.irq with request := s.irq.request ||| 0b00100#5 } })

/-- Many ticks (60 R380; 10 R46): the counter rises by one a tick, modulo 65536; the registers a program sets
and everything outside the timer and IF bit 2 stay. -/
def Obligations.TimerStepAdvancesTheCounter : Prop :=
  ∀ (n : Nat) (s : State),
    (timerStep n s).timer.counter.toNat = (s.timer.counter.toNat + n) % 65536 ∧
    (timerStep n s).timer.tma = s.timer.tma ∧ (timerStep n s).timer.tacEnable = s.timer.tacEnable ∧
    (timerStep n s).timer.tacSelect = s.timer.tacSelect ∧
    (∀ j, j ≠ 2 → (timerStep n s).irq.request.getLsbD j = s.irq.request.getLsbD j) ∧
    { timerStep n s with timer := s.timer, irq := { (timerStep n s).irq with request := s.irq.request } } = s

/-- The overflow timeline (60 R391): after the edge that finds TIMA at 0xFF, TIMA is 0xFF for that tick, 0x00
after the next, and TMA with the Timer request set after the one after that.
The spec derives it (R391, D14). -/
def Obligations.OverflowTakesThreeTicks : Prop :=
  ∀ s : State, s.timer.overflow = .counting → s.timer.tima = 0xFF#8 → Edge s.timer →
    (timerStep 1 s).timer.tima = 0xFF#8 ∧ (timerStep 1 s).timer.overflow = .willOverflow ∧
    (timerStep 1 s).irq = s.irq ∧
    (timerStep 2 s).timer.tima = 0x00#8 ∧ (timerStep 2 s).timer.overflow = .justOverflowed ∧
    (timerStep 2 s).irq = s.irq ∧
    (timerStep 3 s).timer.tima = s.timer.tma ∧ (timerStep 3 s).timer.overflow = .counting ∧
    (timerStep 3 s).irq = { s.irq with request := s.irq.request ||| 0b00100#5 }

/-! ## The PPU -/

namespace Sys2Proof.Rules

/-- Where the PPU stands in the frame of 154 lines of 456 dots (60 R411). -/
def place (p : Ppu) : Nat := 456 * p.line + p.dot

/-- Whether object `i` covers a line (60 R408): the top edge, `Y - 16`, may be negative. -/
def Covering (m : Memory) (lcdc : Byte) (line i : Nat) : Prop :=
  let top : Int := ((m.read (0xFE00 + 4 * i)).toNat : Int) - 16
  let height : Int := if lcdc.getLsbD 2 = true then 16 else 8
  top ≤ line ∧ (line : Int) < top + height

/-- The colour index at column `cx` and row `cy` of the tile record at `base` (60 R415). -/
def TilePixel (m : Memory) (base cx cy : Nat) (c : BitVec 2) : Prop :=
  c.toNat = 2 * ((m.read (0x8000 + base + 2 * cy + 1)).toNat / 2 ^ (7 - cx) % 2) +
    (m.read (0x8000 + base + 2 * cy)).toNat / 2 ^ (7 - cx) % 2

end Sys2Proof.Rules

/-- The scanline sequencer (60 R401, R405, R406, R407, R409, R410): a dot moves the PPU one place on in the
frame of 70224; the mode follows from the place; the VBlank request is raised on the dot that enters line 144
and on no other; the CPU, the timer, memory and the PPU's registers stay.
The dot order is the spec's decision D21. -/
def Obligations.DotsWalkTheFrame : Prop :=
  ∀ s : State, s.ppu.inPlace = true →
    (ppuDot s).ppu.inPlace = true ∧ place (ppuDot s).ppu = (place s.ppu + 1) % 70224 ∧
    (ppuDot s).irq = (if place (ppuDot s).ppu = 65664 then { s.irq with request := s.irq.request ||| 0b00001#5 }
      else s.irq) ∧
    (ppuDot s).cpu = s.cpu ∧ (ppuDot s).timer = s.timer ∧ (ppuDot s).mem = s.mem ∧ (ppuDot s).io = s.io ∧
    (ppuDot s).cfg = s.cfg ∧ (ppuDot s).ppu.lcdc = s.ppu.lcdc ∧ (ppuDot s).ppu.stat = s.ppu.stat ∧
    (ppuDot s).ppu.scy = s.ppu.scy ∧ (ppuDot s).ppu.scx = s.ppu.scx ∧ (ppuDot s).ppu.bgp = s.ppu.bgp

/-- Object selection (60 R405, R408): the dot that ends OamScan selects, in the order of OAM, the objects that
cover the line and have fewer than ten such before them.
Spec decision D24. -/
def Obligations.SelectsTheFirstTenCoveringObjects : Prop :=
  ∀ s : State, s.ppu.mode = .oamScan → s.ppu.dot = 79 →
    (ppuDot s).ppu.mode = .drawing ∧ (ppuDot s).ppu.slots.Pairwise (fun i j => i.val < j.val) ∧
    ∀ i : Fin 40, i ∈ (ppuDot s).ppu.slots ↔
      Covering s.mem s.ppu.lcdc s.ppu.line i.val ∧
        ∃ l : List (Fin 40), l.length < 10 ∧
          ∀ j : Fin 40, j ∈ l ↔ j.val < i.val ∧ Covering s.mem s.ppu.lcdc s.ppu.line j.val

/-- The background pixel (60 R412, R413, R415): the map's entry for the 8 by 8 square, the tile record by
either addressing, the two planes. The scroll registers take no part.
Spec decisions D22, D23, D25. -/
def Obligations.BackgroundPixel : Prop :=
  ∀ (m : Memory) (lcdc : Byte) (x line : Nat), x < 160 → line < 144 →
    ∃ (idx : Byte) (base : Nat),
      idx = m.read (0x8000 + (if lcdc.getLsbD 3 = true then 0x1C00 else 0x1800) + 32 * (line / 8) + x / 8) ∧
      (base : Int) = (if lcdc.getLsbD 4 = true then 16 * (idx.toNat : Int) else 0x1000 + 16 * idx.toInt) ∧
      TilePixel m base (x % 8) (line % 8) (bgPixel m lcdc x line)

/-- An object's pixel (60 R414, R415), for a line the object covers: none off its eight columns; else the tile's
pixel with both flips, and the tile of the pair that the row selects where objects are 16 tall.
Spec
decisions D22, D24, D25. A line the object does not cover is log 13. -/
def Obligations.ObjectPixel : Prop :=
  ∀ (m : Memory) (lcdc : Byte) (i x line : Nat), i < 40 → Covering m lcdc line i →
    let ox : Int := ((m.read (0xFE00 + 4 * i + 1)).toNat : Int) - 8
    let oy : Int := ((m.read (0xFE00 + 4 * i)).toNat : Int) - 16
    let attr := m.read (0xFE00 + 4 * i + 3)
    let tile := (m.read (0xFE00 + 4 * i + 2)).toNat
    let h : Nat := if lcdc.getLsbD 2 = true then 16 else 8
    (¬ (ox ≤ x ∧ (x : Int) < ox + 8) → objPixel m lcdc i x line = none) ∧
    (∀ dx dy : Nat, (dx : Int) = x - ox → dx < 8 → (dy : Int) = line - oy →
      let cx := if attr.getLsbD 5 = true then 7 - dx else dx
      let cy := if attr.getLsbD 6 = true then h - 1 - dy else dy
      let t := if h = 16 then tile - tile % 2 + cy / 8 else tile
      ∃ c, objPixel m lcdc i x line = some c ∧ TilePixel m (16 * t) cx (cy % 8) c)

/-- The sprite at a pixel and the final colour (60 R416, R417): of the selected objects with a nonzero index
here, the one with the smallest X byte, the earlier at equal X; with none, the background's index. -/
def Obligations.SmallestXWins : Prop :=
  ∀ (m : Memory) (lcdc : Byte) (slots : List (Fin 40)) (x line : Nat),
    let opaqueAt := fun (j : Fin 40) => ∃ c, objPixel m lcdc j.val x line = some c ∧ c ≠ 0#2
    let xOf := fun (j : Fin 40) => (m.read (0xFE00 + 4 * j.val + 1)).toNat
    (∀ before i after c, slots = before ++ i :: after → objPixel m lcdc i.val x line = some c → c ≠ 0#2 →
      (∀ j ∈ before, opaqueAt j → xOf i < xOf j) → (∀ j ∈ after, opaqueAt j → xOf i ≤ xOf j) →
      pixel m lcdc slots x line = c) ∧
    ((∀ j ∈ slots, ¬ opaqueAt j) → pixel m lcdc slots x line = bgPixel m lcdc x line)

/-- A Drawing dot (60 R406, R418): the pixel at the line and column is stored, no other changes, and the column
advances; after the 160th the PPU is in HBlank with the column at 0.
The array is the spec's decision D26, its list the
model's (log 12). -/
def Obligations.DrawingStoresOnePixel : Prop :=
  ∀ s : State, s.ppu.inPlace = true → fbWf s.ppu.fb = true → s.ppu.mode = .drawing →
    (∀ l x, l < 144 → x < 160 → (ppuDot s).ppu.pixelAt l x =
      if l = s.ppu.line ∧ x = s.ppu.x then pixel s.mem s.ppu.lcdc s.ppu.slots x l else s.ppu.pixelAt l x) ∧
    (s.ppu.x < 159 → (ppuDot s).ppu.mode = .drawing ∧ (ppuDot s).ppu.x = s.ppu.x + 1) ∧
    (s.ppu.x = 159 → (ppuDot s).ppu.mode = .hBlank ∧ (ppuDot s).ppu.x = 0)

/-! ## Reset -/

/-- Reset (10 R81 to R87): whatever the instance, the registers and the memory contents; the control registers'
first reads; the registers as `RESET_REGS` gives them with F's low nibble 0, and memory as `ROM` and `RAM_INIT`
give it.
The zeros are the spec's decisions D29 and D30; the list of slots and the list of
pixels are log 11 and log 12. -/
def Obligations.ResetStateOfEveryInstance : Prop :=
  ∀ (cfg : Config.Params) (r : Config.ResetRegs) (mem : Memory),
    let s := State.resetWith cfg r mem
    s.irq = { request := 0#5, enable := 0#5, dispatch := .idle } ∧ s.cpu.ime = false ∧
    s.cpu.imeScheduled = false ∧ s.cpu.halted = false ∧ s.cpu.stopped = false ∧ s.cpu.haltBug = false ∧
    s.timer = { counter := 0#16, tima := 0#8, tma := 0#8, tacEnable := false, tacSelect := 0#2, lastBit := false,
                overflow := .counting } ∧
    s.ppu.mode = .oamScan ∧ s.ppu.dot = 0 ∧ s.ppu.line = 0 ∧ s.ppu.x = 0 ∧ s.ppu.slots = [] ∧
    s.ppu.lcdc = 0#8 ∧ s.ppu.stat = 0#8 ∧ s.ppu.scy = 0#8 ∧ s.ppu.scx = 0#8 ∧ s.ppu.bgp = 0#8 ∧
    (∀ l x, l < 144 → x < 160 → s.ppu.pixelAt l x = 0#2) ∧
    (∀ a ∈ [0xFF04#16, 0xFF05#16, 0xFF06#16, 0xFF40#16, 0xFF41#16, 0xFF42#16, 0xFF43#16, 0xFF44#16, 0xFF47#16],
      (busRead s a).1 = 0x00#8) ∧
    (busRead s 0xFF0F#16).1 = 0xE0#8 ∧ (busRead s 0xFFFF#16).1 = 0xE0#8 ∧ (busRead s 0xFF07#16).1 = 0xF8#8 ∧
    s.cpu.a = r.a ∧ s.cpu.flags.toByte = r.f &&& 0xF0#8 ∧ s.cpu.b = r.b ∧ s.cpu.c = r.c ∧ s.cpu.d = r.d ∧
    s.cpu.e = r.e ∧ s.cpu.h = r.h ∧ s.cpu.l = r.l ∧ s.cpu.sp = r.sp ∧ s.cpu.pc = r.pc ∧ s.mem = mem

/-! ## Whole-machine rules -/

/-- The invariant holds at reset, whatever the instance and the registers, of any memory in canonical form.
The form of
memory and of the pixels is the model's (log 3, log 12), and so is `en` (log 6). -/
def Obligations.ResetSatisfiesTheInvariant : Prop :=
  State.reset.Inv ∧
    ∀ (cfg : Config.Params) (r : Config.ResetRegs) (mem : Memory), mem.wf = true → (State.resetWith cfg r mem).Inv

/-- The invariant of 10 R77, with the PPU's modes of 60 R405 to R409: every step keeps it.
The
canonical forms in it are the model's (log 3, log 12), and so is `en` (log 6). -/
def Obligations.EveryStepKeepsTheInvariant : Prop :=
  ∀ s t : State, s.Inv → step s = .next t → t.Inv

/-- ROM and the instance never change (10 R53, R60; 20 R96). -/
def Obligations.RomAndParametersNeverChange : Prop :=
  ∀ s t : State, step s = .next t → t.cfg = s.cfg ∧ ∀ k, k < 0x8000 → t.mem.read k = s.mem.read k

/-- Only the instructions 10 R37 names change a flag; taking an interrupt changes none. -/
def Obligations.OnlyTheNamedInstructionsChangeFlags : Prop :=
  (∀ (i : Instr) (s t : State), i.KeepsFlags → exec i s = .next t → t.cpu.flags = s.cpu.flags) ∧
  ∀ s : State, (sequencerStep s).cpu.flags = s.cpu.flags

/-- Who writes the CPU's latches (10 R38 to R42): only RETI sets IME at once and only DI clears it; only EI
schedules the enable; only HALT halts or arms the halt bug; only STOP sets `stopped`.
Who writes `stopped` is the
spec's decision D11. -/
def Obligations.OnlyTheirInstructionsWriteTheLatches : Prop :=
  ∀ (i : Instr) (s t : State), exec i s = .next t →
    (i ≠ .reti → i ≠ .di → t.cpu.ime = s.cpu.ime) ∧ (i ≠ .ei → t.cpu.imeScheduled = s.cpu.imeScheduled) ∧
    (i ≠ .halt → t.cpu.halted = s.cpu.halted ∧ t.cpu.haltBug = s.cpu.haltBug) ∧
    (i ≠ .stop → t.cpu.stopped = s.cpu.stopped) ∧ t.irq.dispatch = s.irq.dispatch

namespace Sys2Proof.Rules

/-- The addresses an instruction writes on the bus, in order, computed in the state it starts from. -/
inductive WritesAt (s : State) : Instr → List Word → Prop where
  | ldToHl (src : Reg8) : WritesAt s (.mkLdToHl src) [s.cpu.hl]
  | ldIndHlN8 (n : Byte) : WritesAt s (.ldIndHlN8 n) [s.cpu.hl]
  | ldIndBcA : WritesAt s .ldIndBcA [s.cpu.bc]
  | ldIndDeA : WritesAt s .ldIndDeA [s.cpu.de]
  | ldIndN16A (nn : Word) : WritesAt s (.ldIndN16A nn) [nn]
  | ldhIndCA : WritesAt s .ldhIndCA [zeroPage s.cpu.c]
  | ldhIndN8A (n : Byte) : WritesAt s (.ldhIndN8A n) [zeroPage n]
  | ldIndHlDecA : WritesAt s .ldIndHlDecA [s.cpu.hl]
  | ldIndHlIncA : WritesAt s .ldIndHlIncA [s.cpu.hl]
  | ldIndN16Sp (nn : Word) : WritesAt s (.ldIndN16Sp nn) [nn, nn + 1#16]
  | incIndHl : WritesAt s .incIndHl [s.cpu.hl]
  | decIndHl : WritesAt s .decIndHl [s.cpu.hl]
  | rotHl (op : RotOp) : WritesAt s (.mkRotHl op) [s.cpu.hl]
  | resHl (b : Fin 8) : WritesAt s (.mkResHl b) [s.cpu.hl]
  | setHl (b : Fin 8) : WritesAt s (.mkSetHl b) [s.cpu.hl]
  | push (p : StackPair) : WritesAt s (.mkPush p) [s.cpu.sp - 1#16, s.cpu.sp - 2#16]
  | call (nn : Word) : WritesAt s (.callN16 nn) [s.cpu.sp - 1#16, s.cpu.sp - 2#16]
  | callIf (nn : Word) (cc : Cond) (h : Holds cc s.cpu.flags) :
      WritesAt s (.mkCall nn cc) [s.cpu.sp - 1#16, s.cpu.sp - 2#16]
  | rst (y : Fin 8) : WritesAt s (.mkRst y) [s.cpu.sp - 1#16, s.cpu.sp - 2#16]
  | prefixed (op2 : Byte) (l : List Word) (h : WritesAt s (decodeExtended op2) l) : WritesAt s (.prefixCb op2) l

end Sys2Proof.Rules

/-- The memory frame (20 R120; 41 R219; 42 R231, R234): an instruction that writes the bus changes no byte but
those its addresses store to; any other changes no byte, and neither the timer, the PPU nor the interrupt
masks, but for STOP's counter.
The joypad trace is log 5. -/
def Obligations.MemoryChangesOnlyWhereAnInstructionWrites : Prop :=
  ∀ (i : Instr) (s t : State), exec i s = .next t →
    (∀ l, WritesAt s i l → ∀ k, (∀ a ∈ l, ¬ MayStore s a k) → t.mem.read k = s.mem.read k) ∧
    ((∀ l, ¬ WritesAt s i l) → t.mem = s.mem ∧ t.irq = s.irq ∧ t.ppu = s.ppu ∧
      (i ≠ .stop → t.timer = s.timer) ∧ t.io.joypadWrites = s.io.joypadWrites)

namespace Sys2Proof.Rules

/-- A state with other traces of what was told to the host. -/
def retraced (s : State) (joypad : List Byte) (diag : List Report) : State :=
  { s with io := { s.io with joypadWrites := joypad, diag := diag } }

end Sys2Proof.Rules

/-- The diagnostics channel (60 R355; 20 R118) and the joypad writes are told, not read: a step from states that
differ in those traces alone ends in states that differ in them alone.
The traces are the model's (log 5). -/
def Obligations.TheMachineNeverReadsItsTraces : Prop :=
  ∀ (s t : State) (joypad : List Byte) (diag : List Report), step s = .next t →
    ∃ joypad' diag', step (retraced s joypad diag) = .next (retraced t joypad' diag')

namespace Sys2Proof.Rules

/-- System steps one after another, from a state to a state, with the sum of the ticks they report. -/
inductive Runs : State → Nat → State → Prop where
  | done (s : State) : Runs s 0 s
  | step {s u t : State} {n : Nat} (h : step s = .next u) (r : Runs u n t) : Runs s (u.cpu.ticks + n) t

end Sys2Proof.Rules

/-- The frame driver (70 R463, R464; a host move, log 10): `RunFrame` is system steps until their ticks reach 70224,
which they pass by at most 20, and then the VBlank request.
Spec decision D33. -/
def Obligations.RunFrameTakesOneFrameOfTicks : Prop :=
  ∀ s : State, ∃ n u, Runs s n u ∧ 70224 ≤ n ∧ n ≤ 70244 ∧
    runFrame s = .next { u with irq := { u.irq with request := u.irq.request ||| 0b00001#5 } }

/-! ## The encoding -/

/-- Every well-formed instruction is read back from its encoding, whatever bytes follow (30 R140 to R156). -/
def Obligations.DecodeReadsBackEveryEncoding : Prop :=
  ∀ (i : Instr) (rest : List Byte), i.wellFormed = true → decode (encode i ++ rest) = .ok i

/-- Every three bytes begin with exactly one instruction (30 R157, R158, R159): the decoder refuses nothing, and
but for STOP's ignored byte the bytes are the instruction's encoding. -/
def Obligations.EveryByteStringIsAnInstruction : Prop :=
  ∀ b0 b1 b2 : Byte, ∃ i, decode [b0, b1, b2] = .ok i ∧ i.wellFormed = true ∧
    (b0 ≠ 0x10#8 → encode i = [b0, b1, b2].take (encode i).length) ∧ (b0 = 0x10#8 → i = .stop)

/-- Words written out from the table's encodings (30 R155, R156), one of each family. -/
def Obligations.SampleWordsDecode : Prop :=
  decode [0b00000000#8] = .ok .nop ∧ decode [0b01000001#8] = .ok .ldBC ∧
  decode [0b00111110#8, 0x14#8] = .ok (.ldAN8 0x14#8) ∧ decode [0b01110110#8] = .ok .halt ∧
  decode [0b11101010#8, 0x00#8, 0xC0#8] = .ok (.ldIndN16A 0xC000#16) ∧
  decode [0b00110001#8, 0xFE#8, 0xFF#8] = .ok (.ldSpN16 0xFFFE#16) ∧ decode [0b11110101#8] = .ok .pushAf ∧
  decode [0b10010110#8] = .ok .subIndHl ∧ decode [0b11101000#8, 0xFF#8] = .ok (.addSpOff 0xFF#8) ∧
  decode [0b00001111#8] = .ok .rrca ∧ decode [0xCB#8, 0b00110111#8] = .ok .swapA ∧
  decode [0xCB#8, 0b01111110#8] = .ok .bit7IndHl ∧ decode [0b00100000#8, 0xFD#8] = .ok (.jrNzOff 0xFD#8) ∧
  decode [0b11001101#8, 0x34#8, 0x12#8] = .ok (.callN16 0x1234#16) ∧ decode [0b11011101#8] = .ok .undefinedDd
end

