-- ==== Sys2Proof/Laws/Memory.lean ====
section
/-! SUPPORT. The laws of the sparse arrays that hold memory and the picture: reading after a write, the
canonical form, and equality of canonical arrays. -/

namespace Sys2Proof.Machine

variable {α : Type} [DecidableEq α] (d : α)

theorem sparseRead_eq_of_lt (m : List (Nat × α)) (lo k : Nat) (h : sparseWfFrom d lo m = true) (hk : k < lo) :
    sparseRead d m k = d := by
  induction m generalizing lo with
  | nil => rfl
  | cons cell m ih =>
    obtain ⟨k', v⟩ := cell
    simp only [sparseWfFrom, Bool.and_eq_true, decide_eq_true_eq] at h
    have hne : k ≠ k' := by omega
    rw [sparseRead, if_neg hne]
    exact ih (k' + 1) h.2 (by omega)

theorem sparseWfFrom_mono (m : List (Nat × α)) (lo lo' : Nat) (h : sparseWfFrom d lo m = true) (hle : lo' ≤ lo) :
    sparseWfFrom d lo' m = true := by
  cases m with
  | nil => rfl
  | cons cell m =>
    simp only [sparseWfFrom, Bool.and_eq_true, decide_eq_true_eq] at h ⊢
    exact ⟨⟨by omega, h.1.2⟩, h.2⟩

/-- A write keeps the canonical form. -/
theorem sparseWfFrom_write (m : List (Nat × α)) (lo k : Nat) (v : α) (h : sparseWfFrom d lo m = true)
    (hk : lo ≤ k) : sparseWfFrom d lo (sparseWrite d m k v) = true := by
  induction m generalizing lo with
  | nil =>
    simp only [sparseWrite]
    split
    · rfl
    · simp [sparseWfFrom, *]
  | cons cell m ih =>
    obtain ⟨k', v'⟩ := cell
    simp only [sparseWfFrom, Bool.and_eq_true, decide_eq_true_eq] at h
    obtain ⟨⟨hlo, hv'⟩, hm⟩ := h
    simp only [sparseWrite]
    split
    · split
      · simp [sparseWfFrom, *]
      · simp only [sparseWfFrom, Bool.and_eq_true, decide_eq_true_eq]
        refine ⟨⟨hk, by simpa using ‹¬ v = d›⟩, ⟨by omega, hv'⟩, hm⟩
    · split
      · subst k
        split
        · exact sparseWfFrom_mono d m _ _ hm (by omega)
        · simp [sparseWfFrom, *]
      · simp only [sparseWfFrom, Bool.and_eq_true, decide_eq_true_eq]
        exact ⟨⟨hlo, hv'⟩, ih (k' + 1) hm (by omega)⟩

/-- Reading after a write, in canonical form. -/
theorem sparseRead_write (m : List (Nat × α)) (lo k j : Nat) (v : α) (h : sparseWfFrom d lo m = true) :
    sparseRead d (sparseWrite d m k v) j = if j = k then v else sparseRead d m j := by
  induction m generalizing lo with
  | nil =>
    simp only [sparseWrite]
    split <;> simp [sparseRead, *]
  | cons cell m ih =>
    obtain ⟨k', v'⟩ := cell
    simp only [sparseWfFrom, Bool.and_eq_true, decide_eq_true_eq] at h
    obtain ⟨⟨hlo, hv'⟩, hm⟩ := h
    simp only [sparseWrite]
    split
    · split
      · subst v
        by_cases hj : j = k
        · subst j
          rw [if_pos rfl, sparseRead, if_neg (by omega)]
          exact sparseRead_eq_of_lt d m (k' + 1) k hm (by omega)
        · rw [if_neg hj]
      · simp [sparseRead]
    · split
      · subst k
        split
        · subst v
          by_cases hj : j = k'
          · subst j
            rw [if_pos rfl]
            exact sparseRead_eq_of_lt d m (k' + 1) k' hm (by omega)
          · simp [sparseRead, hj]
        · by_cases hj : j = k' <;> simp [sparseRead, hj]
      · simp only [sparseRead]
        by_cases hj : j = k'
        · subst j
          rw [if_pos rfl, if_neg (by omega), if_pos rfl]
        · rw [if_neg hj, if_neg hj]
          exact ih (k' + 1) hm

/-- A write leaves every other key alone, in any list. -/
theorem sparseRead_write_ne (m : List (Nat × α)) (k j : Nat) (v : α) (h : j ≠ k) :
    sparseRead d (sparseWrite d m k v) j = sparseRead d m j := by
  induction m with
  | nil =>
    simp only [sparseWrite]
    split <;> simp [sparseRead, h]
  | cons cell m ih =>
    obtain ⟨k', v'⟩ := cell
    simp only [sparseWrite]
    split
    · split <;> simp [sparseRead, h]
    · split
      · subst k
        split <;> simp [sparseRead, h]
      · simp [sparseRead, ih]

/-- A write keeps a property of the keys. -/
theorem sparseWrite_all (p : Nat → Bool) (m : List (Nat × α)) (k : Nat) (v : α)
    (h : m.all (fun cell => p cell.1) = true) (hk : p k = true) :
    (sparseWrite d m k v).all (fun cell => p cell.1) = true := by
  induction m with
  | nil => simp only [sparseWrite]; split <;> simp [hk]
  | cons cell m ih =>
    obtain ⟨k', v'⟩ := cell
    simp only [List.all_cons, Bool.and_eq_true] at h
    simp only [sparseWrite]
    split
    · split <;> simp [h, hk]
    · split
      · split <;> simp [h, hk]
      · simp [h.1, ih h.2]

/-- Canonical lists that read the same at every key are the same list. -/
theorem sparse_ext (m m' : List (Nat × α)) (lo lo' : Nat) (h : sparseWfFrom d lo m = true)
    (h' : sparseWfFrom d lo' m' = true) (heq : ∀ k, sparseRead d m k = sparseRead d m' k) : m = m' := by
  induction m generalizing m' lo lo' with
  | nil =>
    cases m' with
    | nil => rfl
    | cons cell m' =>
      obtain ⟨k', v'⟩ := cell
      simp only [sparseWfFrom, Bool.and_eq_true, decide_eq_true_eq, Bool.not_eq_true', decide_eq_false_iff_not] at h'
      have := heq k'
      simp only [sparseRead, if_true] at this
      exact absurd this.symm h'.1.2
  | cons cell m ih =>
    obtain ⟨k, v⟩ := cell
    simp only [sparseWfFrom, Bool.and_eq_true, decide_eq_true_eq, Bool.not_eq_true', decide_eq_false_iff_not] at h
    cases m' with
    | nil =>
      have := heq k
      simp only [sparseRead, if_true] at this
      exact absurd this h.1.2
    | cons cell' m' =>
      obtain ⟨k', v'⟩ := cell'
      simp only [sparseWfFrom, Bool.and_eq_true, decide_eq_true_eq, Bool.not_eq_true', decide_eq_false_iff_not] at h'
      have hkk : k = k' := by
        rcases Nat.lt_trichotomy k k' with hlt | heq' | hgt
        · have := heq k
          rw [sparseRead, if_pos rfl, sparseRead, if_neg (by omega),
            sparseRead_eq_of_lt d m' (k' + 1) k h'.2 (by omega)] at this
          exact absurd this h.1.2
        · exact heq'
        · have := heq k'
          rw [sparseRead, if_neg (by omega), sparseRead_eq_of_lt d m (k + 1) k' h.2 (by omega), sparseRead,
            if_pos rfl] at this
          exact absurd this.symm h'.1.2
      subst hkk
      have hv : v = v' := by simpa [sparseRead] using heq k
      subst hv
      congr 1
      refine ih m' (k + 1) (k + 1) h.2 h'.2 (fun j => ?_)
      by_cases hj : j = k
      · subst j
        rw [sparseRead_eq_of_lt d m (k + 1) k h.2 (by omega), sparseRead_eq_of_lt d m' (k + 1) k h'.2 (by omega)]
      · simpa [sparseRead, hj] using heq j

/-- A write leaves every other byte alone. -/
theorem Memory.read_write_ne (m : Memory) (a j : Nat) (v : Byte) (h : j ≠ a) : (m.write a v).read j = m.read j := by
  unfold Memory.write
  split
  · exact sparseRead_write_ne _ m a j v h
  · rfl

/-- A write to storage is read back. -/
theorem Memory.read_write_self (m : Memory) (a : Nat) (v : Byte) (hm : m.wf = true) (ha : Memory.backed a = true) :
    (m.write a v).read a = v := by
  simp only [Memory.wf, Bool.and_eq_true] at hm
  rw [Memory.write, if_pos ha, Memory.read, sparseRead_write _ m 0 a a v hm.1, if_pos rfl]

/-- Every write keeps memory canonical. -/
theorem Memory.write_wf (m : Memory) (a : Nat) (v : Byte) (h : m.wf = true) : (m.write a v).wf = true := by
  unfold Memory.write
  split
  · simp only [Memory.wf, Bool.and_eq_true] at h ⊢
    exact ⟨sparseWfFrom_write _ m 0 a v h.1 (by omega), sparseWrite_all _ _ m a v h.2 (by assumption)⟩
  · exact h

end Sys2Proof.Machine
end

