-- ==== Sys2Proof/Laws/State.lean ====
section
/-! SUPPORT. One lemma for each field of each update of a state, so that no proof unfolds a record. -/

namespace Sys2Proof.Machine

/-! ## The CPU's registers -/

@[simp] theorem Cpu.setReg_flags (c : Cpu) (r : Reg8) (v : Byte) : (c.setReg r v).flags = c.flags := by cases r <;> rfl
@[simp] theorem Cpu.setReg_sp (c : Cpu) (r : Reg8) (v : Byte) : (c.setReg r v).sp = c.sp := by cases r <;> rfl
@[simp] theorem Cpu.setReg_pc (c : Cpu) (r : Reg8) (v : Byte) : (c.setReg r v).pc = c.pc := by cases r <;> rfl
@[simp] theorem Cpu.setReg_ime (c : Cpu) (r : Reg8) (v : Byte) : (c.setReg r v).ime = c.ime := by cases r <;> rfl
@[simp] theorem Cpu.setReg_imeScheduled (c : Cpu) (r : Reg8) (v : Byte) :
    (c.setReg r v).imeScheduled = c.imeScheduled := by cases r <;> rfl
@[simp] theorem Cpu.setReg_halted (c : Cpu) (r : Reg8) (v : Byte) :
    (c.setReg r v).halted = c.halted := by cases r <;> rfl
@[simp] theorem Cpu.setReg_stopped (c : Cpu) (r : Reg8) (v : Byte) :
    (c.setReg r v).stopped = c.stopped := by cases r <;> rfl
@[simp] theorem Cpu.setReg_haltBug (c : Cpu) (r : Reg8) (v : Byte) :
    (c.setReg r v).haltBug = c.haltBug := by cases r <;> rfl
@[simp] theorem Cpu.setReg_en (c : Cpu) (r : Reg8) (v : Byte) : (c.setReg r v).en = c.en := by cases r <;> rfl
@[simp] theorem Cpu.setReg_ticks (c : Cpu) (r : Reg8) (v : Byte) : (c.setReg r v).ticks = c.ticks := by cases r <;> rfl
@[simp] theorem Cpu.setPair_flags (c : Cpu) (p : Pair) (v : Word) :
    (c.setPair p v).flags = c.flags := by cases p <;> rfl
@[simp] theorem Cpu.setPair_pc (c : Cpu) (p : Pair) (v : Word) : (c.setPair p v).pc = c.pc := by cases p <;> rfl
@[simp] theorem Cpu.setPair_ime (c : Cpu) (p : Pair) (v : Word) : (c.setPair p v).ime = c.ime := by cases p <;> rfl
@[simp] theorem Cpu.setPair_imeScheduled (c : Cpu) (p : Pair) (v : Word) :
    (c.setPair p v).imeScheduled = c.imeScheduled := by cases p <;> rfl
@[simp] theorem Cpu.setPair_halted (c : Cpu) (p : Pair) (v : Word) :
    (c.setPair p v).halted = c.halted := by cases p <;> rfl
@[simp] theorem Cpu.setPair_stopped (c : Cpu) (p : Pair) (v : Word) :
    (c.setPair p v).stopped = c.stopped := by cases p <;> rfl
@[simp] theorem Cpu.setPair_haltBug (c : Cpu) (p : Pair) (v : Word) :
    (c.setPair p v).haltBug = c.haltBug := by cases p <;> rfl
@[simp] theorem Cpu.setPair_en (c : Cpu) (p : Pair) (v : Word) : (c.setPair p v).en = c.en := by cases p <;> rfl
@[simp] theorem Cpu.setPair_ticks (c : Cpu) (p : Pair) (v : Word) :
    (c.setPair p v).ticks = c.ticks := by cases p <;> rfl
@[simp] theorem Cpu.setStackPair_sp (c : Cpu) (p : StackPair) (v : Word) :
    (c.setStackPair p v).sp = c.sp := by cases p <;> rfl
@[simp] theorem Cpu.setStackPair_pc (c : Cpu) (p : StackPair) (v : Word) :
    (c.setStackPair p v).pc = c.pc := by cases p <;> rfl
@[simp] theorem Cpu.setStackPair_ime (c : Cpu) (p : StackPair) (v : Word) :
    (c.setStackPair p v).ime = c.ime := by cases p <;> rfl
@[simp] theorem Cpu.setStackPair_imeScheduled (c : Cpu) (p : StackPair) (v : Word) :
    (c.setStackPair p v).imeScheduled = c.imeScheduled := by cases p <;> rfl
@[simp] theorem Cpu.setStackPair_halted (c : Cpu) (p : StackPair) (v : Word) :
    (c.setStackPair p v).halted = c.halted := by cases p <;> rfl
@[simp] theorem Cpu.setStackPair_stopped (c : Cpu) (p : StackPair) (v : Word) :
    (c.setStackPair p v).stopped = c.stopped := by cases p <;> rfl
@[simp] theorem Cpu.setStackPair_haltBug (c : Cpu) (p : StackPair) (v : Word) :
    (c.setStackPair p v).haltBug = c.haltBug := by cases p <;> rfl
@[simp] theorem Cpu.setStackPair_en (c : Cpu) (p : StackPair) (v : Word) :
    (c.setStackPair p v).en = c.en := by cases p <;> rfl
@[simp] theorem Cpu.setStackPair_ticks (c : Cpu) (p : StackPair) (v : Word) :
    (c.setStackPair p v).ticks = c.ticks := by cases p <;> rfl
@[simp] theorem Cpu.setHl_a (c : Cpu) (v : Word) : (c.setHl v).a = c.a := rfl
@[simp] theorem Cpu.setHl_flags (c : Cpu) (v : Word) : (c.setHl v).flags = c.flags := rfl
@[simp] theorem Cpu.setHl_b (c : Cpu) (v : Word) : (c.setHl v).b = c.b := rfl
@[simp] theorem Cpu.setHl_c (c : Cpu) (v : Word) : (c.setHl v).c = c.c := rfl
@[simp] theorem Cpu.setHl_d (c : Cpu) (v : Word) : (c.setHl v).d = c.d := rfl
@[simp] theorem Cpu.setHl_e (c : Cpu) (v : Word) : (c.setHl v).e = c.e := rfl
@[simp] theorem Cpu.setHl_sp (c : Cpu) (v : Word) : (c.setHl v).sp = c.sp := rfl
@[simp] theorem Cpu.setHl_pc (c : Cpu) (v : Word) : (c.setHl v).pc = c.pc := rfl
@[simp] theorem Cpu.setHl_ime (c : Cpu) (v : Word) : (c.setHl v).ime = c.ime := rfl
@[simp] theorem Cpu.setHl_imeScheduled (c : Cpu) (v : Word) : (c.setHl v).imeScheduled = c.imeScheduled := rfl
@[simp] theorem Cpu.setHl_halted (c : Cpu) (v : Word) : (c.setHl v).halted = c.halted := rfl
@[simp] theorem Cpu.setHl_stopped (c : Cpu) (v : Word) : (c.setHl v).stopped = c.stopped := rfl
@[simp] theorem Cpu.setHl_haltBug (c : Cpu) (v : Word) : (c.setHl v).haltBug = c.haltBug := rfl
@[simp] theorem Cpu.setHl_en (c : Cpu) (v : Word) : (c.setHl v).en = c.en := rfl
@[simp] theorem Cpu.setHl_ticks (c : Cpu) (v : Word) : (c.setHl v).ticks = c.ticks := rfl

/-! ## The state -/

@[simp] theorem State.report_cpu (s : State) (r : Report) : (s.report r).cpu = s.cpu := rfl
@[simp] theorem State.report_irq (s : State) (r : Report) : (s.report r).irq = s.irq := rfl
@[simp] theorem State.report_timer (s : State) (r : Report) : (s.report r).timer = s.timer := rfl
@[simp] theorem State.report_ppu (s : State) (r : Report) : (s.report r).ppu = s.ppu := rfl
@[simp] theorem State.report_mem (s : State) (r : Report) : (s.report r).mem = s.mem := rfl
@[simp] theorem State.report_io (s : State) (r : Report) : (s.report r).io = { s.io with diag := r :: s.io.diag } := rfl
@[simp] theorem State.report_cfg (s : State) (r : Report) : (s.report r).cfg = s.cfg := rfl
@[simp] theorem State.trigger_cpu (s : State) (k : Interrupt) : (s.trigger k).cpu = s.cpu := rfl
@[simp] theorem State.trigger_irq (s : State) (k : Interrupt) :
    (s.trigger k).irq = { s.irq with request := s.irq.request ||| k.mask } := rfl
@[simp] theorem State.trigger_timer (s : State) (k : Interrupt) : (s.trigger k).timer = s.timer := rfl
@[simp] theorem State.trigger_ppu (s : State) (k : Interrupt) : (s.trigger k).ppu = s.ppu := rfl
@[simp] theorem State.trigger_mem (s : State) (k : Interrupt) : (s.trigger k).mem = s.mem := rfl
@[simp] theorem State.trigger_io (s : State) (k : Interrupt) : (s.trigger k).io = s.io := rfl
@[simp] theorem State.trigger_cfg (s : State) (k : Interrupt) : (s.trigger k).cfg = s.cfg := rfl
@[simp] theorem State.setSp_cpu (s : State) (v : Word) : (s.setSp v).cpu = { s.cpu with sp := v } := rfl
@[simp] theorem State.setSp_irq (s : State) (v : Word) : (s.setSp v).irq = s.irq := rfl
@[simp] theorem State.setSp_timer (s : State) (v : Word) : (s.setSp v).timer = s.timer := rfl
@[simp] theorem State.setSp_ppu (s : State) (v : Word) : (s.setSp v).ppu = s.ppu := rfl
@[simp] theorem State.setSp_mem (s : State) (v : Word) : (s.setSp v).mem = s.mem := rfl
@[simp] theorem State.setSp_io (s : State) (v : Word) : (s.setSp v).io = s.io := rfl
@[simp] theorem State.setSp_cfg (s : State) (v : Word) : (s.setSp v).cfg = s.cfg := rfl
@[simp] theorem State.advance_cpu (s : State) (len : Word) (n : Nat) :
    (s.advance len n).cpu = { s.cpu with pc := s.cpu.pc + len, ticks := n } := rfl
@[simp] theorem State.advance_irq (s : State) (len : Word) (n : Nat) : (s.advance len n).irq = s.irq := rfl
@[simp] theorem State.advance_timer (s : State) (len : Word) (n : Nat) : (s.advance len n).timer = s.timer := rfl
@[simp] theorem State.advance_ppu (s : State) (len : Word) (n : Nat) : (s.advance len n).ppu = s.ppu := rfl
@[simp] theorem State.advance_mem (s : State) (len : Word) (n : Nat) : (s.advance len n).mem = s.mem := rfl
@[simp] theorem State.advance_io (s : State) (len : Word) (n : Nat) : (s.advance len n).io = s.io := rfl
@[simp] theorem State.advance_cfg (s : State) (len : Word) (n : Nat) : (s.advance len n).cfg = s.cfg := rfl
@[simp] theorem State.jump_cpu (s : State) (v : Word) (n : Nat) :
    (s.jump v n).cpu = { s.cpu with pc := v, ticks := n } := rfl
@[simp] theorem State.jump_irq (s : State) (v : Word) (n : Nat) : (s.jump v n).irq = s.irq := rfl
@[simp] theorem State.jump_timer (s : State) (v : Word) (n : Nat) : (s.jump v n).timer = s.timer := rfl
@[simp] theorem State.jump_ppu (s : State) (v : Word) (n : Nat) : (s.jump v n).ppu = s.ppu := rfl
@[simp] theorem State.jump_mem (s : State) (v : Word) (n : Nat) : (s.jump v n).mem = s.mem := rfl
@[simp] theorem State.jump_io (s : State) (v : Word) (n : Nat) : (s.jump v n).io = s.io := rfl
@[simp] theorem State.jump_cfg (s : State) (v : Word) (n : Nat) : (s.jump v n).cfg = s.cfg := rfl
@[simp] theorem State.spend_cpu (s : State) (n : Nat) : (s.spend n).cpu = { s.cpu with ticks := n } := rfl
@[simp] theorem State.spend_irq (s : State) (n : Nat) : (s.spend n).irq = s.irq := rfl
@[simp] theorem State.spend_timer (s : State) (n : Nat) : (s.spend n).timer = s.timer := rfl
@[simp] theorem State.spend_ppu (s : State) (n : Nat) : (s.spend n).ppu = s.ppu := rfl
@[simp] theorem State.spend_mem (s : State) (n : Nat) : (s.spend n).mem = s.mem := rfl
@[simp] theorem State.spend_io (s : State) (n : Nat) : (s.spend n).io = s.io := rfl
@[simp] theorem State.spend_cfg (s : State) (n : Nat) : (s.spend n).cfg = s.cfg := rfl
@[simp] theorem State.setDispatch_cpu (s : State) (d : DispatchState) : (s.setDispatch d).cpu = s.cpu := rfl
@[simp] theorem State.setDispatch_irq (s : State) (d : DispatchState) :
    (s.setDispatch d).irq = { s.irq with dispatch := d } := rfl
@[simp] theorem State.setDispatch_timer (s : State) (d : DispatchState) : (s.setDispatch d).timer = s.timer := rfl
@[simp] theorem State.setDispatch_ppu (s : State) (d : DispatchState) : (s.setDispatch d).ppu = s.ppu := rfl
@[simp] theorem State.setDispatch_mem (s : State) (d : DispatchState) : (s.setDispatch d).mem = s.mem := rfl
@[simp] theorem State.setDispatch_io (s : State) (d : DispatchState) : (s.setDispatch d).io = s.io := rfl
@[simp] theorem State.setDispatch_cfg (s : State) (d : DispatchState) : (s.setDispatch d).cfg = s.cfg := rfl
@[simp] theorem State.mapCpu_cpu (s : State) (f : Cpu → Cpu) : (s.mapCpu f).cpu = f s.cpu := rfl
@[simp] theorem State.mapCpu_irq (s : State) (f : Cpu → Cpu) : (s.mapCpu f).irq = s.irq := rfl
@[simp] theorem State.mapCpu_timer (s : State) (f : Cpu → Cpu) : (s.mapCpu f).timer = s.timer := rfl
@[simp] theorem State.mapCpu_ppu (s : State) (f : Cpu → Cpu) : (s.mapCpu f).ppu = s.ppu := rfl
@[simp] theorem State.mapCpu_mem (s : State) (f : Cpu → Cpu) : (s.mapCpu f).mem = s.mem := rfl
@[simp] theorem State.mapCpu_io (s : State) (f : Cpu → Cpu) : (s.mapCpu f).io = s.io := rfl
@[simp] theorem State.mapCpu_cfg (s : State) (f : Cpu → Cpu) : (s.mapCpu f).cfg = s.cfg := rfl
@[simp] theorem State.stepHl_cpu (s : State) (v : Word) : (s.stepHl v).cpu = s.cpu.setHl (s.cpu.hl + v) := rfl
@[simp] theorem State.stepHl_irq (s : State) (v : Word) : (s.stepHl v).irq = s.irq := rfl
@[simp] theorem State.stepHl_timer (s : State) (v : Word) : (s.stepHl v).timer = s.timer := rfl
@[simp] theorem State.stepHl_ppu (s : State) (v : Word) : (s.stepHl v).ppu = s.ppu := rfl
@[simp] theorem State.stepHl_mem (s : State) (v : Word) : (s.stepHl v).mem = s.mem := rfl
@[simp] theorem State.stepHl_io (s : State) (v : Word) : (s.stepHl v).io = s.io := rfl
@[simp] theorem State.stepHl_cfg (s : State) (v : Word) : (s.stepHl v).cfg = s.cfg := rfl
@[simp] theorem State.readyToFetch_cpu (s : State) :
    (s.readyToFetch).cpu = { s.cpu with halted := false, ime := s.cpu.ime && !s.irq.pending } := rfl
@[simp] theorem State.readyToFetch_irq (s : State) : (s.readyToFetch).irq = { s.irq with dispatch := .idle } := rfl
@[simp] theorem State.readyToFetch_timer (s : State) : (s.readyToFetch).timer = s.timer := rfl
@[simp] theorem State.readyToFetch_ppu (s : State) : (s.readyToFetch).ppu = s.ppu := rfl
@[simp] theorem State.readyToFetch_mem (s : State) : (s.readyToFetch).mem = s.mem := rfl
@[simp] theorem State.readyToFetch_io (s : State) : (s.readyToFetch).io = s.io := rfl
@[simp] theorem State.readyToFetch_cfg (s : State) : (s.readyToFetch).cfg = s.cfg := rfl

/-! ## The start and the end of an instruction -/

@[simp] theorem beginInstruction_cpu (s : State) :
    (beginInstruction s).cpu = { s.cpu with haltBug := false, imeScheduled := false, en := s.cpu.imeScheduled } := rfl
@[simp] theorem beginInstruction_irq (s : State) : (beginInstruction s).irq = s.irq := rfl
@[simp] theorem beginInstruction_timer (s : State) : (beginInstruction s).timer = s.timer := rfl
@[simp] theorem beginInstruction_ppu (s : State) : (beginInstruction s).ppu = s.ppu := rfl
@[simp] theorem beginInstruction_mem (s : State) : (beginInstruction s).mem = s.mem := rfl
@[simp] theorem beginInstruction_io (s : State) : (beginInstruction s).io = s.io := rfl
@[simp] theorem beginInstruction_cfg (s : State) : (beginInstruction s).cfg = s.cfg := rfl
@[simp] theorem endInstruction_cpu (bug : Bool) (s : State) :
    (endInstruction bug s).cpu = { s.cpu with pc := if bug then s.cpu.pc - 1#16 else s.cpu.pc, ime := s.cpu.ime || s.cpu.en, en := false } := rfl
@[simp] theorem endInstruction_irq (bug : Bool) (s : State) : (endInstruction bug s).irq = s.irq := rfl
@[simp] theorem endInstruction_timer (bug : Bool) (s : State) : (endInstruction bug s).timer = s.timer := rfl
@[simp] theorem endInstruction_ppu (bug : Bool) (s : State) : (endInstruction bug s).ppu = s.ppu := rfl
@[simp] theorem endInstruction_mem (bug : Bool) (s : State) : (endInstruction bug s).mem = s.mem := rfl
@[simp] theorem endInstruction_io (bug : Bool) (s : State) : (endInstruction bug s).io = s.io := rfl
@[simp] theorem endInstruction_cfg (bug : Bool) (s : State) : (endInstruction bug s).cfg = s.cfg := rfl

end Sys2Proof.Machine
end

