-- ==== Sys2Proof/Laws/Bus.lean ====
section
/-! SUPPORT. What the bus can do: what a read and a write leave alone, which byte a write stores, and that
every access keeps memory canonical (spec/20_memory.md R95 to R118). -/

namespace Sys2Proof.Machine

/-! ## Reads -/

@[simp] theorem busRead_fst (s : State) (a : Word) : (busRead s a).1 = busValue s a := rfl
@[simp] theorem busRead_snd (s : State) (a : Word) : (busRead s a).2 = busReadEffect s a := rfl

/-- A read does nothing, or counts one joypad read, or makes one report. -/
theorem busReadEffect_cases (s : State) (a : Word) :
    busReadEffect s a = s ∨
    (busDecode a = .joypad ∧
      busReadEffect s a = { s with io := { s.io with joypadReads := s.io.joypadReads + 1 } }) ∨
    (busDecode a = .unmapped ∧ busReadEffect s a = s.report (.unmappedRead a)) := by
  unfold busReadEffect
  split <;> simp_all

@[simp] theorem busReadEffect_cpu (s : State) (a : Word) : (busReadEffect s a).cpu = s.cpu := by
  unfold busReadEffect; split <;> rfl
@[simp] theorem busReadEffect_irq (s : State) (a : Word) : (busReadEffect s a).irq = s.irq := by
  unfold busReadEffect; split <;> rfl
@[simp] theorem busReadEffect_timer (s : State) (a : Word) : (busReadEffect s a).timer = s.timer := by
  unfold busReadEffect; split <;> rfl
@[simp] theorem busReadEffect_ppu (s : State) (a : Word) : (busReadEffect s a).ppu = s.ppu := by
  unfold busReadEffect; split <;> rfl
@[simp] theorem busReadEffect_mem (s : State) (a : Word) : (busReadEffect s a).mem = s.mem := by
  unfold busReadEffect; split <;> rfl
@[simp] theorem busReadEffect_cfg (s : State) (a : Word) : (busReadEffect s a).cfg = s.cfg := by
  unfold busReadEffect; split <;> rfl
@[simp] theorem busReadEffect_joypadWrites (s : State) (a : Word) :
    (busReadEffect s a).io.joypadWrites = s.io.joypadWrites := by
  unfold busReadEffect; split <;> rfl

/-- The CPU's registers take no part in a read. -/
@[simp] theorem busValue_setCpu (s : State) (c : Cpu) (a : Word) : busValue { s with cpu := c } a = busValue s a := rfl

@[simp] theorem busReadEffect_setCpu (s : State) (c : Cpu) (a : Word) :
    busReadEffect { s with cpu := c } a = { busReadEffect s a with cpu := c } := by
  unfold busReadEffect; split <;> rfl

/-! ## The OAM copy -/

@[simp] theorem dmaCopy_cpu (page : Byte) (n i : Nat) (s : State) : (dmaCopy page n i s).cpu = s.cpu := by
  induction n generalizing i s with
  | zero => rfl
  | succ n ih => simp [dmaCopy, ih]

@[simp] theorem dmaCopy_irq (page : Byte) (n i : Nat) (s : State) : (dmaCopy page n i s).irq = s.irq := by
  induction n generalizing i s with
  | zero => rfl
  | succ n ih => simp [dmaCopy, ih]

@[simp] theorem dmaCopy_timer (page : Byte) (n i : Nat) (s : State) : (dmaCopy page n i s).timer = s.timer := by
  induction n generalizing i s with
  | zero => rfl
  | succ n ih => simp [dmaCopy, ih]

@[simp] theorem dmaCopy_ppu (page : Byte) (n i : Nat) (s : State) : (dmaCopy page n i s).ppu = s.ppu := by
  induction n generalizing i s with
  | zero => rfl
  | succ n ih => simp [dmaCopy, ih]

@[simp] theorem dmaCopy_cfg (page : Byte) (n i : Nat) (s : State) : (dmaCopy page n i s).cfg = s.cfg := by
  induction n generalizing i s with
  | zero => rfl
  | succ n ih => simp [dmaCopy, ih]

@[simp] theorem dmaCopy_joypadWrites (page : Byte) (n i : Nat) (s : State) :
    (dmaCopy page n i s).io.joypadWrites = s.io.joypadWrites := by
  induction n generalizing i s with
  | zero => rfl
  | succ n ih => simp [dmaCopy, ih]

/-- The copy changes no byte outside OAM. -/
theorem dmaCopy_read_ne (page : Byte) (n i : Nat) (s : State) (k : Nat) (h : k < 0xFE00 + i ∨ 0xFE00 + i + n ≤ k) :
    (dmaCopy page n i s).mem.read k = s.mem.read k := by
  induction n generalizing i s with
  | zero => rfl
  | succ n ih =>
    rw [dmaCopy]
    simp only [busRead]
    rw [ih _ _ (by omega)]
    simp only [busReadEffect_mem]
    exact Memory.read_write_ne _ _ _ _ (by omega)

theorem dmaCopy_wf (page : Byte) (n i : Nat) (s : State) (h : s.mem.wf = true) :
    (dmaCopy page n i s).mem.wf = true := by
  induction n generalizing i s with
  | zero => exact h
  | succ n ih =>
    rw [dmaCopy]
    exact ih _ _ (by simpa using Memory.write_wf _ _ _ h)

/-- The CPU's registers take no part in the copy. -/
@[simp] theorem dmaCopy_setCpu (page : Byte) (n i : Nat) (s : State) (c : Cpu) :
    dmaCopy page n i { s with cpu := c } = { dmaCopy page n i s with cpu := c } := by
  induction n generalizing i s with
  | zero => rfl
  | succ n ih =>
    simp only [dmaCopy, busRead, busValue_setCpu, busReadEffect_setCpu]
    exact ih (i + 1) { busReadEffect s (joinBytes page 0#8 + BitVec.ofNat 16 i) with
      mem := (busReadEffect s (joinBytes page 0#8 + BitVec.ofNat 16 i)).mem.write (0xFE00 + i)
        (busValue s (joinBytes page 0#8 + BitVec.ofNat 16 i)) }

/-! ## Writes -/

/-- A write to the I/O page outside the DMA register, or to IE: memory is left alone. -/
theorem dmaRequest_cases (s : State) (v : Byte) :
    dmaRequest s v = s.report (.dmaRefused v) ∨ dmaRequest s v = dmaCopy v 160 0 s := by
  unfold dmaRequest; split <;> simp

@[simp] theorem busWrite_cpu (s : State) (a : Word) (v : Byte) : (busWrite s a v).cpu = s.cpu := by
  have hd : (dmaRequest s v).cpu = s.cpu := by
    obtain h | h := dmaRequest_cases s v <;> rw [h]
    · rfl
    · rw [dmaCopy_cpu]
  unfold busWrite
  split <;> first | exact hd | rfl

@[simp] theorem busWrite_cfg (s : State) (a : Word) (v : Byte) : (busWrite s a v).cfg = s.cfg := by
  have hd : (dmaRequest s v).cfg = s.cfg := by
    obtain h | h := dmaRequest_cases s v <;> rw [h]
    · rfl
    · rw [dmaCopy_cfg]
  unfold busWrite
  split <;> first | exact hd | rfl

@[simp] theorem busWrite_dispatch (s : State) (a : Word) (v : Byte) : (busWrite s a v).irq.dispatch = s.irq.dispatch := by
  have hd : (dmaRequest s v).irq.dispatch = s.irq.dispatch := by
    obtain h | h := dmaRequest_cases s v <;> rw [h]
    · rfl
    · rw [dmaCopy_irq]
  unfold busWrite
  split <;> first | exact hd | rfl

@[simp] theorem busWrite_mode (s : State) (a : Word) (v : Byte) : (busWrite s a v).ppu.mode = s.ppu.mode := by
  have hd : (dmaRequest s v).ppu.mode = s.ppu.mode := by
    obtain h | h := dmaRequest_cases s v <;> rw [h]
    · rfl
    · rw [dmaCopy_ppu]
  unfold busWrite
  split <;> first | exact hd | rfl

@[simp] theorem busWrite_dot (s : State) (a : Word) (v : Byte) : (busWrite s a v).ppu.dot = s.ppu.dot := by
  have hd : (dmaRequest s v).ppu.dot = s.ppu.dot := by
    obtain h | h := dmaRequest_cases s v <;> rw [h]
    · rfl
    · rw [dmaCopy_ppu]
  unfold busWrite
  split <;> first | exact hd | rfl

@[simp] theorem busWrite_line (s : State) (a : Word) (v : Byte) : (busWrite s a v).ppu.line = s.ppu.line := by
  have hd : (dmaRequest s v).ppu.line = s.ppu.line := by
    obtain h | h := dmaRequest_cases s v <;> rw [h]
    · rfl
    · rw [dmaCopy_ppu]
  unfold busWrite
  split <;> first | exact hd | rfl

@[simp] theorem busWrite_x (s : State) (a : Word) (v : Byte) : (busWrite s a v).ppu.x = s.ppu.x := by
  have hd : (dmaRequest s v).ppu.x = s.ppu.x := by
    obtain h | h := dmaRequest_cases s v <;> rw [h]
    · rfl
    · rw [dmaCopy_ppu]
  unfold busWrite
  split <;> first | exact hd | rfl

@[simp] theorem busWrite_slots (s : State) (a : Word) (v : Byte) : (busWrite s a v).ppu.slots = s.ppu.slots := by
  have hd : (dmaRequest s v).ppu.slots = s.ppu.slots := by
    obtain h | h := dmaRequest_cases s v <;> rw [h]
    · rfl
    · rw [dmaCopy_ppu]
  unfold busWrite
  split <;> first | exact hd | rfl

@[simp] theorem busWrite_fb (s : State) (a : Word) (v : Byte) : (busWrite s a v).ppu.fb = s.ppu.fb := by
  have hd : (dmaRequest s v).ppu.fb = s.ppu.fb := by
    obtain h | h := dmaRequest_cases s v <;> rw [h]
    · rfl
    · rw [dmaCopy_ppu]
  unfold busWrite
  split <;> first | exact hd | rfl

/-- The CPU's registers take no part in a write. -/
theorem dmaRequest_setCpu (s : State) (c : Cpu) (v : Byte) :
    dmaRequest { s with cpu := c } v = { dmaRequest s v with cpu := c } := by
  cases h : s.ppu.mode <;> simp only [dmaRequest, h, dmaCopy_setCpu] <;> rfl

@[simp] theorem busWrite_setCpu (s : State) (c : Cpu) (a : Word) (v : Byte) :
    busWrite { s with cpu := c } a v = { busWrite s a v with cpu := c } := by
  unfold busWrite
  split <;> try simp only [dmaRequest_setCpu]
  all_goals rfl

theorem busWrite_wf (s : State) (a : Word) (v : Byte) (h : s.mem.wf = true) : (busWrite s a v).mem.wf = true := by
  have hd : (dmaRequest s v).mem.wf = true := by
    obtain e | e := dmaRequest_cases s v <;> rw [e]
    · exact h
    · exact dmaCopy_wf v 160 0 s h
  unfold busWrite
  split <;> first | exact hd | exact Memory.write_wf _ _ _ h | exact h

/-! ## The address map -/

theorem ite_ind {β : Type} {P : β → Prop} {c : Prop} [Decidable c] {x y : β} (hx : c → P x) (hy : ¬ c → P y) :
    P (if c then x else y) := by
  split
  · exact hx ‹_›
  · exact hy ‹_›

/-- Where each storage unit's bytes lie, and the addresses of the joypad port, the DMA register and IE (20 R95). -/
def unitRange (n : Nat) : BusUnit → Prop
  | .rom k => k = n ∧ k < 0x8000
  | .vram k => k = n ∧ 0x8000 ≤ k ∧ k < 0xA000
  | .wram k => (k = n ∨ k + 0x2000 = n) ∧ 0xC000 ≤ k ∧ k < 0xE000 ∧ n < 0xFE00
  | .oam k => k = n ∧ 0xFE00 ≤ k ∧ k < 0xFEA0
  | .hram k => k = n ∧ 0xFF80 ≤ k ∧ k < 0xFFFF
  | .joypad => n = 0xFF00
  | .dma => n = 0xFF46
  | .ie => n = 0xFFFF
  | _ => (0xA000 ≤ n ∧ n < 0xC000) ∨ (0xFEA0 ≤ n ∧ n < 0xFF80)

theorem busDecode_range (a : Word) : unitRange a.toNat (busDecode a) := by
  have ha := a.isLt
  unfold busDecode
  dsimp only
  repeat' (refine ite_ind (fun _ => ?_) (fun _ => ?_))
  all_goals (dsimp only [unitRange]; omega)

theorem busDecode_rom (a : Word) (k : Nat) (h : busDecode a = .rom k) : k = a.toNat ∧ k < 0x8000 := by
  simpa [h, unitRange] using busDecode_range a

theorem busDecode_vram (a : Word) (k : Nat) (h : busDecode a = .vram k) :
    k = a.toNat ∧ 0x8000 ≤ k ∧ k < 0xA000 := by
  simpa [h, unitRange] using busDecode_range a

theorem busDecode_wram (a : Word) (k : Nat) (h : busDecode a = .wram k) :
    (k = a.toNat ∨ k + 0x2000 = a.toNat) ∧ 0xC000 ≤ k ∧ k < 0xE000 ∧ a.toNat < 0xFE00 := by
  simpa [h, unitRange] using busDecode_range a

theorem busDecode_oam (a : Word) (k : Nat) (h : busDecode a = .oam k) : k = a.toNat ∧ 0xFE00 ≤ k ∧ k < 0xFEA0 := by
  simpa [h, unitRange] using busDecode_range a

theorem busDecode_hram (a : Word) (k : Nat) (h : busDecode a = .hram k) :
    k = a.toNat ∧ 0xFF80 ≤ k ∧ k < 0xFFFF := by
  simpa [h, unitRange] using busDecode_range a

theorem busDecode_joypad (a : Word) (h : busDecode a = .joypad) : a.toNat = 0xFF00 := by
  simpa [h, unitRange] using busDecode_range a

theorem busDecode_dma (a : Word) (h : busDecode a = .dma) : a.toNat = 0xFF46 := by
  simpa [h, unitRange] using busDecode_range a

/-- A storage unit's key has storage. -/
theorem backed_iff (k : Nat) : Memory.backed k = true ↔ k < 0xA000 ∨ (0xC000 ≤ k ∧ k < 0xE000) ∨
    (0xFE00 ≤ k ∧ k < 0xFEA0) ∨ (0xFF80 ≤ k ∧ k < 0xFFFF) := by
  simp only [Memory.backed, Bool.or_eq_true, Bool.and_eq_true, decide_eq_true_eq]
  omega

/-- A write changes no byte but the one its unit keeps, or OAM's for a copy. -/
theorem busWrite_read_ne (s : State) (a : Word) (v : Byte) (k : Nat)
    (hv : busDecode a ≠ .vram k) (hw : busDecode a ≠ .wram k) (ho : busDecode a ≠ .oam k) (hh : busDecode a ≠ .hram k)
    (hd : busDecode a = .dma → k < 0xFE00 ∨ 0xFEA0 ≤ k) : (busWrite s a v).mem.read k = s.mem.read k := by
  unfold busWrite
  split <;> first | rfl | skip
  all_goals rename_i h
  all_goals try (exact Memory.read_write_ne _ _ _ _ (by rintro rfl; simp_all))
  obtain e | e := dmaRequest_cases s v <;> rw [e]
  · rfl
  · exact dmaCopy_read_ne v 160 0 s k (by have := hd h; omega)

end Sys2Proof.Machine
end

