-- ==== Sys2Proof/Laws/Devices.lean ====
section
/-! SUPPORT. What the timer's ticks and the PPU's dots leave alone (spec/60_exceptions.md R380, R400), and the
parts of a step. -/

namespace Sys2Proof.Machine

/-- A tick changes the timer, and may request the Timer interrupt. -/
theorem timerTick_cases (s : State) :
    timerTick s = { s with timer := (s.timer.tick s.cfg.timerRevision).1 } ∨
    timerTick s = ({ s with timer := (s.timer.tick s.cfg.timerRevision).1 } : State).trigger .timer := by
  unfold timerTick
  dsimp only
  split
  · exact .inr rfl
  · exact .inl rfl

/-- A dot changes the PPU, and may request the VBlank interrupt. -/
theorem ppuDot_cases (s : State) :
    ppuDot s = { s with ppu := (s.ppu.dotStep s.mem).1 } ∨
    ppuDot s = ({ s with ppu := (s.ppu.dotStep s.mem).1 } : State).trigger .vBlank := by
  unfold ppuDot
  dsimp only
  split
  · exact .inr rfl
  · exact .inl rfl

theorem ppuDot_ppu (s : State) : (ppuDot s).ppu = (s.ppu.dotStep s.mem).1 := by
  obtain h | h := ppuDot_cases s <;> rw [h] <;> rfl

theorem timerTick_timer (s : State) : (timerTick s).timer = (s.timer.tick s.cfg.timerRevision).1 := by
  obtain h | h := timerTick_cases s <;> rw [h] <;> rfl

@[simp] theorem timerTick_cpu (s : State) : (timerTick s).cpu = s.cpu := by
  obtain h | h := timerTick_cases s <;> rw [h] <;> rfl

@[simp] theorem timerStep_cpu (n : Nat) (s : State) : (timerStep n s).cpu = s.cpu := by
  induction n generalizing s with
  | zero => rfl
  | succ n ih => rw [timerStep, ih, timerTick_cpu]

@[simp] theorem timerTick_ppu (s : State) : (timerTick s).ppu = s.ppu := by
  obtain h | h := timerTick_cases s <;> rw [h] <;> rfl

@[simp] theorem timerStep_ppu (n : Nat) (s : State) : (timerStep n s).ppu = s.ppu := by
  induction n generalizing s with
  | zero => rfl
  | succ n ih => rw [timerStep, ih, timerTick_ppu]

@[simp] theorem timerTick_mem (s : State) : (timerTick s).mem = s.mem := by
  obtain h | h := timerTick_cases s <;> rw [h] <;> rfl

@[simp] theorem timerStep_mem (n : Nat) (s : State) : (timerStep n s).mem = s.mem := by
  induction n generalizing s with
  | zero => rfl
  | succ n ih => rw [timerStep, ih, timerTick_mem]

@[simp] theorem timerTick_io (s : State) : (timerTick s).io = s.io := by
  obtain h | h := timerTick_cases s <;> rw [h] <;> rfl

@[simp] theorem timerStep_io (n : Nat) (s : State) : (timerStep n s).io = s.io := by
  induction n generalizing s with
  | zero => rfl
  | succ n ih => rw [timerStep, ih, timerTick_io]

@[simp] theorem timerTick_cfg (s : State) : (timerTick s).cfg = s.cfg := by
  obtain h | h := timerTick_cases s <;> rw [h] <;> rfl

@[simp] theorem timerStep_cfg (n : Nat) (s : State) : (timerStep n s).cfg = s.cfg := by
  induction n generalizing s with
  | zero => rfl
  | succ n ih => rw [timerStep, ih, timerTick_cfg]

@[simp] theorem timerTick_enable (s : State) : (timerTick s).irq.enable = s.irq.enable := by
  obtain h | h := timerTick_cases s <;> rw [h] <;> rfl

@[simp] theorem timerStep_enable (n : Nat) (s : State) : (timerStep n s).irq.enable = s.irq.enable := by
  induction n generalizing s with
  | zero => rfl
  | succ n ih => rw [timerStep, ih, timerTick_enable]

@[simp] theorem timerTick_dispatch (s : State) : (timerTick s).irq.dispatch = s.irq.dispatch := by
  obtain h | h := timerTick_cases s <;> rw [h] <;> rfl

@[simp] theorem timerStep_dispatch (n : Nat) (s : State) : (timerStep n s).irq.dispatch = s.irq.dispatch := by
  induction n generalizing s with
  | zero => rfl
  | succ n ih => rw [timerStep, ih, timerTick_dispatch]

@[simp] theorem ppuDot_cpu (s : State) : (ppuDot s).cpu = s.cpu := by
  obtain h | h := ppuDot_cases s <;> rw [h] <;> rfl

@[simp] theorem ppuStep_cpu (n : Nat) (s : State) : (ppuStep n s).cpu = s.cpu := by
  induction n generalizing s with
  | zero => rfl
  | succ n ih => rw [ppuStep, ih, ppuDot_cpu]

@[simp] theorem ppuDot_timer (s : State) : (ppuDot s).timer = s.timer := by
  obtain h | h := ppuDot_cases s <;> rw [h] <;> rfl

@[simp] theorem ppuStep_timer (n : Nat) (s : State) : (ppuStep n s).timer = s.timer := by
  induction n generalizing s with
  | zero => rfl
  | succ n ih => rw [ppuStep, ih, ppuDot_timer]

@[simp] theorem ppuDot_mem (s : State) : (ppuDot s).mem = s.mem := by
  obtain h | h := ppuDot_cases s <;> rw [h] <;> rfl

@[simp] theorem ppuStep_mem (n : Nat) (s : State) : (ppuStep n s).mem = s.mem := by
  induction n generalizing s with
  | zero => rfl
  | succ n ih => rw [ppuStep, ih, ppuDot_mem]

@[simp] theorem ppuDot_io (s : State) : (ppuDot s).io = s.io := by
  obtain h | h := ppuDot_cases s <;> rw [h] <;> rfl

@[simp] theorem ppuStep_io (n : Nat) (s : State) : (ppuStep n s).io = s.io := by
  induction n generalizing s with
  | zero => rfl
  | succ n ih => rw [ppuStep, ih, ppuDot_io]

@[simp] theorem ppuDot_cfg (s : State) : (ppuDot s).cfg = s.cfg := by
  obtain h | h := ppuDot_cases s <;> rw [h] <;> rfl

@[simp] theorem ppuStep_cfg (n : Nat) (s : State) : (ppuStep n s).cfg = s.cfg := by
  induction n generalizing s with
  | zero => rfl
  | succ n ih => rw [ppuStep, ih, ppuDot_cfg]

@[simp] theorem ppuDot_enable (s : State) : (ppuDot s).irq.enable = s.irq.enable := by
  obtain h | h := ppuDot_cases s <;> rw [h] <;> rfl

@[simp] theorem ppuStep_enable (n : Nat) (s : State) : (ppuStep n s).irq.enable = s.irq.enable := by
  induction n generalizing s with
  | zero => rfl
  | succ n ih => rw [ppuStep, ih, ppuDot_enable]

@[simp] theorem ppuDot_dispatch (s : State) : (ppuDot s).irq.dispatch = s.irq.dispatch := by
  obtain h | h := ppuDot_cases s <;> rw [h] <;> rfl

@[simp] theorem ppuStep_dispatch (n : Nat) (s : State) : (ppuStep n s).irq.dispatch = s.irq.dispatch := by
  induction n generalizing s with
  | zero => rfl
  | succ n ih => rw [ppuStep, ih, ppuDot_dispatch]

@[simp] theorem runDevices_cpu (s : State) : (runDevices s).cpu = s.cpu := by simp [runDevices]
@[simp] theorem runDevices_mem (s : State) : (runDevices s).mem = s.mem := by simp [runDevices]
@[simp] theorem runDevices_io (s : State) : (runDevices s).io = s.io := by simp [runDevices]
@[simp] theorem runDevices_cfg (s : State) : (runDevices s).cfg = s.cfg := by simp [runDevices]
@[simp] theorem runDevices_enable (s : State) : (runDevices s).irq.enable = s.irq.enable := by simp [runDevices]
@[simp] theorem runDevices_dispatch (s : State) : (runDevices s).irq.dispatch = s.irq.dispatch := by simp [runDevices]

/-! ## The parts of a step -/

theorem onNext_eq_next (f : State → State) (r : Result) (t : State) :
    onNext f r = .next t ↔ ∃ u, r = .next u ∧ t = f u := by
  cases r <;> simp [onNext, eq_comm]

/-- A CPU step is one of the four cases (40 R170). -/
theorem cpuStep_cases (s : State) :
    (s.cpu.halted = true ∧ s.irq.pending = true ∧ cpuStep s = .next (wakeStep s)) ∨
    (s.cpu.halted = true ∧ s.irq.pending = false ∧ cpuStep s = .next (waitStep s)) ∨
    (s.cpu.halted = false ∧ (s.irq.dispatch ≠ .idle ∨ (s.cpu.ime = true ∧ s.irq.pending = true)) ∧
      cpuStep s = .next (dispatchStep s)) ∨
    (s.cpu.halted = false ∧ s.irq.dispatch = .idle ∧ ¬ (s.cpu.ime = true ∧ s.irq.pending = true) ∧
      cpuStep s = normalStep s) := by
  by_cases hh : s.cpu.halted = true
  · by_cases hp : s.irq.pending = true
    · exact .inl ⟨hh, hp, by simp [cpuStep, hh, hp]⟩
    · exact .inr (.inl ⟨hh, by simpa using hp, by simp [cpuStep, hh, hp]⟩)
  · have hh' : s.cpu.halted = false := by simpa using hh
    by_cases hd : s.irq.dispatch ≠ .idle ∨ (s.cpu.ime = true ∧ s.irq.pending = true)
    · exact .inr (.inr (.inl ⟨hh', hd, by rw [cpuStep, if_neg hh, if_pos hd]⟩))
    · refine .inr (.inr (.inr ⟨hh', ?_, ?_, by rw [cpuStep, if_neg hh, if_neg hd]⟩))
      · exact Decidable.not_not.mp (fun h => hd (.inl h))
      · exact fun h => hd (.inr h)

end Sys2Proof.Machine
end

