-- ==== Sys2Proof/Laws/Families.lean ====
section
/-! SUPPORT. The instructions of a family run the family's operation, at every operand code. -/

namespace Sys2Proof.Machine

theorem exec_mkLdReg (dst src : Reg8) (s : State) :
    exec (.mkLdReg dst src) s = .next (loadReg dst src s) := by
  cases dst <;> cases src <;> rfl

theorem exec_mkLdImm (n : Byte) (dst : Reg8) (s : State) :
    exec (.mkLdImm n dst) s = .next (loadImm dst n s) := by
  cases dst <;> rfl

theorem exec_mkLdFromHl (dst : Reg8) (s : State) :
    exec (.mkLdFromHl dst) s = .next (loadFromHl dst s) := by
  cases dst <;> rfl

theorem exec_mkLdToHl (src : Reg8) (s : State) :
    exec (.mkLdToHl src) s = .next (storeToHl src s) := by
  cases src <;> rfl

theorem exec_mkInc (r : Reg8) (s : State) :
    exec (.mkInc r) s = .next (incReg r s) := by
  cases r <;> rfl

theorem exec_mkDec (r : Reg8) (s : State) :
    exec (.mkDec r) s = .next (decReg r s) := by
  cases r <;> rfl

theorem exec_mkAluReg (op : AluOp) (r : Reg8) (s : State) :
    exec (.mkAluReg op r) s = .next (aluReg op r s) := by
  cases op <;> cases r <;> rfl

theorem exec_mkAluHl (op : AluOp) (s : State) :
    exec (.mkAluHl op) s = .next (aluHl op s) := by
  cases op <;> rfl

theorem exec_mkAluImm (n : Byte) (op : AluOp) (s : State) :
    exec (.mkAluImm n op) s = .next (aluImm op n s) := by
  cases op <;> rfl

theorem exec_mkLdPair (nn : Word) (p : Pair) (s : State) :
    exec (.mkLdPair nn p) s = .next (loadPair p nn s) := by
  cases p <;> rfl

theorem exec_mkAddHl (p : Pair) (s : State) :
    exec (.mkAddHl p) s = .next (addHlPair p s) := by
  cases p <;> rfl

theorem exec_mkIncPair (p : Pair) (s : State) :
    exec (.mkIncPair p) s = .next (incPair p s) := by
  cases p <;> rfl

theorem exec_mkDecPair (p : Pair) (s : State) :
    exec (.mkDecPair p) s = .next (decPair p s) := by
  cases p <;> rfl

theorem exec_mkPush (p : StackPair) (s : State) :
    exec (.mkPush p) s = .next (pushPair p s) := by
  cases p <;> rfl

theorem exec_mkPop (p : StackPair) (s : State) :
    exec (.mkPop p) s = .next (popPair p s) := by
  cases p <;> rfl

theorem exec_mkJr (e : Byte) (cc : Cond) (s : State) :
    exec (.mkJr e cc) s = .next (jumpRelIf cc e s) := by
  cases cc <;> rfl

theorem exec_mkJp (nn : Word) (cc : Cond) (s : State) :
    exec (.mkJp nn cc) s = .next (jumpIf cc nn s) := by
  cases cc <;> rfl

theorem exec_mkCall (nn : Word) (cc : Cond) (s : State) :
    exec (.mkCall nn cc) s = .next (callIf cc nn s) := by
  cases cc <;> rfl

theorem exec_mkRet (cc : Cond) (s : State) :
    exec (.mkRet cc) s = .next (returnIf cc s) := by
  cases cc <;> rfl

theorem exec_mkRst (y : Fin 8) (s : State) :
    exec (.mkRst y) s = .next (restart y s) := by
  match y with
  | 0 => rfl
  | 1 => rfl
  | 2 => rfl
  | 3 => rfl
  | 4 => rfl
  | 5 => rfl
  | 6 => rfl
  | 7 => rfl

theorem exec_mkRotReg (op : RotOp) (r : Reg8) (s : State) :
    exec (.mkRotReg op r) s = .next (rotReg op r s) := by
  cases op <;> cases r <;> rfl

theorem exec_mkRotHl (op : RotOp) (s : State) :
    exec (.mkRotHl op) s = .next (rotHl op s) := by
  cases op <;> rfl

theorem exec_mkBitReg (b : Fin 8) (r : Reg8) (s : State) :
    exec (.mkBitReg b r) s = .next (bitTestReg b r s) := by
  match b with
  | 0 => cases r <;> rfl
  | 1 => cases r <;> rfl
  | 2 => cases r <;> rfl
  | 3 => cases r <;> rfl
  | 4 => cases r <;> rfl
  | 5 => cases r <;> rfl
  | 6 => cases r <;> rfl
  | 7 => cases r <;> rfl

theorem exec_mkBitHl (b : Fin 8) (s : State) :
    exec (.mkBitHl b) s = .next (bitTestHl b s) := by
  match b with
  | 0 => rfl
  | 1 => rfl
  | 2 => rfl
  | 3 => rfl
  | 4 => rfl
  | 5 => rfl
  | 6 => rfl
  | 7 => rfl

theorem exec_mkResReg (b : Fin 8) (r : Reg8) (s : State) :
    exec (.mkResReg b r) s = .next (bitResetReg b r s) := by
  match b with
  | 0 => cases r <;> rfl
  | 1 => cases r <;> rfl
  | 2 => cases r <;> rfl
  | 3 => cases r <;> rfl
  | 4 => cases r <;> rfl
  | 5 => cases r <;> rfl
  | 6 => cases r <;> rfl
  | 7 => cases r <;> rfl

theorem exec_mkResHl (b : Fin 8) (s : State) :
    exec (.mkResHl b) s = .next (bitResetHl b s) := by
  match b with
  | 0 => rfl
  | 1 => rfl
  | 2 => rfl
  | 3 => rfl
  | 4 => rfl
  | 5 => rfl
  | 6 => rfl
  | 7 => rfl

theorem exec_mkSetReg (b : Fin 8) (r : Reg8) (s : State) :
    exec (.mkSetReg b r) s = .next (bitSetReg b r s) := by
  match b with
  | 0 => cases r <;> rfl
  | 1 => cases r <;> rfl
  | 2 => cases r <;> rfl
  | 3 => cases r <;> rfl
  | 4 => cases r <;> rfl
  | 5 => cases r <;> rfl
  | 6 => cases r <;> rfl
  | 7 => cases r <;> rfl

theorem exec_mkSetHl (b : Fin 8) (s : State) :
    exec (.mkSetHl b) s = .next (bitSetHl b s) := by
  match b with
  | 0 => rfl
  | 1 => rfl
  | 2 => rfl
  | 3 => rfl
  | 4 => rfl
  | 5 => rfl
  | 6 => rfl
  | 7 => rfl

/-! ## The rows that stand alone -/

theorem exec_nop (s : State) : exec .nop s = .next (s.advance 1#16 4) := rfl
theorem exec_ldIndBcA (s : State) : exec .ldIndBcA s = .next (storeA s.cpu.bc 1#16 8 s) := rfl
theorem exec_rlca (s : State) : exec .rlca s = .next (rotateA .rlc s) := rfl
theorem exec_ldIndN16Sp (nn : Word) (s : State) : exec (.ldIndN16Sp nn) s = .next (storeSp nn s) := rfl
theorem exec_ldAIndBc (s : State) : exec .ldAIndBc s = .next (loadA s.cpu.bc 1#16 8 s) := rfl
theorem exec_rrca (s : State) : exec .rrca s = .next (rotateA .rrc s) := rfl
theorem exec_stop (s : State) : exec .stop s = .next (stopOp s) := rfl
theorem exec_ldIndDeA (s : State) : exec .ldIndDeA s = .next (storeA s.cpu.de 1#16 8 s) := rfl
theorem exec_rla (s : State) : exec .rla s = .next (rotateA .rl s) := rfl
theorem exec_jrOff (e : Byte) (s : State) : exec (.jrOff e) s = .next (jumpRel e s) := rfl
theorem exec_ldAIndDe (s : State) : exec .ldAIndDe s = .next (loadA s.cpu.de 1#16 8 s) := rfl
theorem exec_rra (s : State) : exec .rra s = .next (rotateA .rr s) := rfl
theorem exec_ldIndHlIncA (s : State) : exec .ldIndHlIncA s = .next (storeAStep 1#16 s) := rfl
theorem exec_daa (s : State) : exec .daa s = .next (daaOp s) := rfl
theorem exec_ldAIndHlInc (s : State) : exec .ldAIndHlInc s = .next (loadAStep 1#16 s) := rfl
theorem exec_cpl (s : State) : exec .cpl s = .next (complementOp s) := rfl
theorem exec_ldIndHlDecA (s : State) : exec .ldIndHlDecA s = .next (storeAStep (-1#16) s) := rfl
theorem exec_incIndHl (s : State) : exec .incIndHl s = .next (incHl s) := rfl
theorem exec_decIndHl (s : State) : exec .decIndHl s = .next (decHl s) := rfl
theorem exec_ldIndHlN8 (n : Byte) (s : State) : exec (.ldIndHlN8 n) s = .next (storeImmToHl n s) := rfl
theorem exec_scf (s : State) : exec .scf s = .next (setCarryOp s) := rfl
theorem exec_ldAIndHlDec (s : State) : exec .ldAIndHlDec s = .next (loadAStep (-1#16) s) := rfl
theorem exec_ccf (s : State) : exec .ccf s = .next (flipCarryOp s) := rfl
theorem exec_halt (s : State) : exec .halt s = .next (haltOp s) := rfl
theorem exec_jpN16 (nn : Word) (s : State) : exec (.jpN16 nn) s = .next (jumpTo nn s) := rfl
theorem exec_ret (s : State) : exec .ret s = .next (returnTo s) := rfl
theorem exec_prefixCb (op2 : Byte) (s : State) : exec (.prefixCb op2) s = .next (extendedOp op2 s) := rfl
theorem exec_callN16 (nn : Word) (s : State) : exec (.callN16 nn) s = .next (callTo nn s) := rfl
theorem exec_undefinedD3 (s : State) : exec .undefinedD3 s = .next (undefinedOp 0xD3#8 s) := rfl
theorem exec_reti (s : State) : exec .reti s = .next (returnFromInterrupt s) := rfl
theorem exec_undefinedDb (s : State) : exec .undefinedDb s = .next (undefinedOp 0xDB#8 s) := rfl
theorem exec_undefinedDd (s : State) : exec .undefinedDd s = .next (undefinedOp 0xDD#8 s) := rfl
theorem exec_ldhIndN8A (n : Byte) (s : State) : exec (.ldhIndN8A n) s = .next (storeA (zeroPage n) 2#16 12 s) := rfl
theorem exec_ldhIndCA (s : State) : exec .ldhIndCA s = .next (storeA (zeroPage s.cpu.c) 1#16 8 s) := rfl
theorem exec_undefinedE3 (s : State) : exec .undefinedE3 s = .next (undefinedOp 0xE3#8 s) := rfl
theorem exec_undefinedE4 (s : State) : exec .undefinedE4 s = .next (undefinedOp 0xE4#8 s) := rfl
theorem exec_addSpOff (e : Byte) (s : State) : exec (.addSpOff e) s = .next (addSpOffset e s) := rfl
theorem exec_jpHl (s : State) : exec .jpHl s = .next (jumpHl s) := rfl
theorem exec_ldIndN16A (nn : Word) (s : State) : exec (.ldIndN16A nn) s = .next (storeA nn 3#16 16 s) := rfl
theorem exec_undefinedEb (s : State) : exec .undefinedEb s = .next (undefinedOp 0xEB#8 s) := rfl
theorem exec_undefinedEc (s : State) : exec .undefinedEc s = .next (undefinedOp 0xEC#8 s) := rfl
theorem exec_undefinedEd (s : State) : exec .undefinedEd s = .next (undefinedOp 0xED#8 s) := rfl
theorem exec_ldhAIndN8 (n : Byte) (s : State) : exec (.ldhAIndN8 n) s = .next (loadA (zeroPage n) 2#16 12 s) := rfl
theorem exec_ldhAIndC (s : State) : exec .ldhAIndC s = .next (loadA (zeroPage s.cpu.c) 1#16 8 s) := rfl
theorem exec_di (s : State) : exec .di s = .next (disableOp s) := rfl
theorem exec_undefinedF4 (s : State) : exec .undefinedF4 s = .next (undefinedOp 0xF4#8 s) := rfl
theorem exec_ldHlSpOff (e : Byte) (s : State) : exec (.ldHlSpOff e) s = .next (loadHlSpOff e s) := rfl
theorem exec_ldSpHl (s : State) : exec .ldSpHl s = .next (loadSpHl s) := rfl
theorem exec_ldAIndN16 (nn : Word) (s : State) : exec (.ldAIndN16 nn) s = .next (loadA nn 3#16 16 s) := rfl
theorem exec_ei (s : State) : exec .ei s = .next (enableOp s) := rfl
theorem exec_undefinedFc (s : State) : exec .undefinedFc s = .next (undefinedOp 0xFC#8 s) := rfl
theorem exec_undefinedFd (s : State) : exec .undefinedFd s = .next (undefinedOp 0xFD#8 s) := rfl

end Sys2Proof.Machine
end

