-- ==== Sys2Proof/Laws/Kinds.lean ====
section
/-! SUPPORT. Every instruction is one of the families' instructions at some operand codes, or one of the rows that
stand alone (spec/30_encoding.md R150 to R154). A statement about all instructions is proved family by family. -/

namespace Sys2Proof

/-- The families of the decoder, by the builders, and the single rows. -/
inductive Instr.Kind : Instr → Prop where
  | ldReg (dst src : Reg8) : Kind (.mkLdReg dst src)
  | ldImm (n : Byte) (dst : Reg8) : Kind (.mkLdImm n dst)
  | ldFromHl (dst : Reg8) : Kind (.mkLdFromHl dst)
  | ldToHl (src : Reg8) : Kind (.mkLdToHl src)
  | inc (r : Reg8) : Kind (.mkInc r)
  | dec (r : Reg8) : Kind (.mkDec r)
  | aluReg (op : AluOp) (r : Reg8) : Kind (.mkAluReg op r)
  | aluHl (op : AluOp) : Kind (.mkAluHl op)
  | aluImm (n : Byte) (op : AluOp) : Kind (.mkAluImm n op)
  | ldPair (nn : Word) (p : Pair) : Kind (.mkLdPair nn p)
  | addHl (p : Pair) : Kind (.mkAddHl p)
  | incPair (p : Pair) : Kind (.mkIncPair p)
  | decPair (p : Pair) : Kind (.mkDecPair p)
  | push (p : StackPair) : Kind (.mkPush p)
  | pop (p : StackPair) : Kind (.mkPop p)
  | jrIf (e : Byte) (cc : Cond) : Kind (.mkJr e cc)
  | jpIf (nn : Word) (cc : Cond) : Kind (.mkJp nn cc)
  | callIf (nn : Word) (cc : Cond) : Kind (.mkCall nn cc)
  | retIf (cc : Cond) : Kind (.mkRet cc)
  | rst (y : Fin 8) : Kind (.mkRst y)
  | rotReg (op : RotOp) (r : Reg8) : Kind (.mkRotReg op r)
  | rotHl (op : RotOp) : Kind (.mkRotHl op)
  | bitReg (b : Fin 8) (r : Reg8) : Kind (.mkBitReg b r)
  | bitHl (b : Fin 8) : Kind (.mkBitHl b)
  | resReg (b : Fin 8) (r : Reg8) : Kind (.mkResReg b r)
  | resHl (b : Fin 8) : Kind (.mkResHl b)
  | setReg (b : Fin 8) (r : Reg8) : Kind (.mkSetReg b r)
  | setHl (b : Fin 8) : Kind (.mkSetHl b)
  | nop : Kind .nop
  | ldIndBcA : Kind .ldIndBcA
  | rlca : Kind .rlca
  | ldIndN16Sp (nn : Word) : Kind (.ldIndN16Sp nn)
  | ldAIndBc : Kind .ldAIndBc
  | rrca : Kind .rrca
  | stop : Kind .stop
  | ldIndDeA : Kind .ldIndDeA
  | rla : Kind .rla
  | jrOff (e : Byte) : Kind (.jrOff e)
  | ldAIndDe : Kind .ldAIndDe
  | rra : Kind .rra
  | ldIndHlIncA : Kind .ldIndHlIncA
  | daa : Kind .daa
  | ldAIndHlInc : Kind .ldAIndHlInc
  | cpl : Kind .cpl
  | ldIndHlDecA : Kind .ldIndHlDecA
  | incIndHl : Kind .incIndHl
  | decIndHl : Kind .decIndHl
  | ldIndHlN8 (n : Byte) : Kind (.ldIndHlN8 n)
  | scf : Kind .scf
  | ldAIndHlDec : Kind .ldAIndHlDec
  | ccf : Kind .ccf
  | halt : Kind .halt
  | jpN16 (nn : Word) : Kind (.jpN16 nn)
  | ret : Kind .ret
  | prefixCb (op2 : Byte) : Kind (.prefixCb op2)
  | callN16 (nn : Word) : Kind (.callN16 nn)
  | undefinedD3 : Kind .undefinedD3
  | reti : Kind .reti
  | undefinedDb : Kind .undefinedDb
  | undefinedDd : Kind .undefinedDd
  | ldhIndN8A (n : Byte) : Kind (.ldhIndN8A n)
  | ldhIndCA : Kind .ldhIndCA
  | undefinedE3 : Kind .undefinedE3
  | undefinedE4 : Kind .undefinedE4
  | addSpOff (e : Byte) : Kind (.addSpOff e)
  | jpHl : Kind .jpHl
  | ldIndN16A (nn : Word) : Kind (.ldIndN16A nn)
  | undefinedEb : Kind .undefinedEb
  | undefinedEc : Kind .undefinedEc
  | undefinedEd : Kind .undefinedEd
  | ldhAIndN8 (n : Byte) : Kind (.ldhAIndN8 n)
  | ldhAIndC : Kind .ldhAIndC
  | di : Kind .di
  | undefinedF4 : Kind .undefinedF4
  | ldHlSpOff (e : Byte) : Kind (.ldHlSpOff e)
  | ldSpHl : Kind .ldSpHl
  | ldAIndN16 (nn : Word) : Kind (.ldAIndN16 nn)
  | ei : Kind .ei
  | undefinedFc : Kind .undefinedFc
  | undefinedFd : Kind .undefinedFd

theorem Instr.kind (i : Instr) : i.Kind :=
  match i with
  | .nop => .nop
  | .ldBcN16 nn => .ldPair nn .bc
  | .ldIndBcA => .ldIndBcA
  | .incBc => .incPair .bc
  | .incB => .inc .b
  | .decB => .dec .b
  | .ldBN8 n => .ldImm n .b
  | .rlca => .rlca
  | .ldIndN16Sp nn => .ldIndN16Sp nn
  | .addHlBc => .addHl .bc
  | .ldAIndBc => .ldAIndBc
  | .decBc => .decPair .bc
  | .incC => .inc .c
  | .decC => .dec .c
  | .ldCN8 n => .ldImm n .c
  | .rrca => .rrca
  | .stop => .stop
  | .ldDeN16 nn => .ldPair nn .de
  | .ldIndDeA => .ldIndDeA
  | .incDe => .incPair .de
  | .incD => .inc .d
  | .decD => .dec .d
  | .ldDN8 n => .ldImm n .d
  | .rla => .rla
  | .jrOff e => .jrOff e
  | .addHlDe => .addHl .de
  | .ldAIndDe => .ldAIndDe
  | .decDe => .decPair .de
  | .incE => .inc .e
  | .decE => .dec .e
  | .ldEN8 n => .ldImm n .e
  | .rra => .rra
  | .jrNzOff e => .jrIf e .nz
  | .ldHlN16 nn => .ldPair nn .hl
  | .ldIndHlIncA => .ldIndHlIncA
  | .incHl => .incPair .hl
  | .incH => .inc .h
  | .decH => .dec .h
  | .ldHN8 n => .ldImm n .h
  | .daa => .daa
  | .jrZOff e => .jrIf e .z
  | .addHlHl => .addHl .hl
  | .ldAIndHlInc => .ldAIndHlInc
  | .decHl => .decPair .hl
  | .incL => .inc .l
  | .decL => .dec .l
  | .ldLN8 n => .ldImm n .l
  | .cpl => .cpl
  | .jrNcOff e => .jrIf e .nc
  | .ldSpN16 nn => .ldPair nn .sp
  | .ldIndHlDecA => .ldIndHlDecA
  | .incSp => .incPair .sp
  | .incIndHl => .incIndHl
  | .decIndHl => .decIndHl
  | .ldIndHlN8 n => .ldIndHlN8 n
  | .scf => .scf
  | .jrCOff e => .jrIf e .c
  | .addHlSp => .addHl .sp
  | .ldAIndHlDec => .ldAIndHlDec
  | .decSp => .decPair .sp
  | .incA => .inc .a
  | .decA => .dec .a
  | .ldAN8 n => .ldImm n .a
  | .ccf => .ccf
  | .ldBB => .ldReg .b .b
  | .ldBC => .ldReg .b .c
  | .ldBD => .ldReg .b .d
  | .ldBE => .ldReg .b .e
  | .ldBH => .ldReg .b .h
  | .ldBL => .ldReg .b .l
  | .ldBIndHl => .ldFromHl .b
  | .ldBA => .ldReg .b .a
  | .ldCB => .ldReg .c .b
  | .ldCC => .ldReg .c .c
  | .ldCD => .ldReg .c .d
  | .ldCE => .ldReg .c .e
  | .ldCH => .ldReg .c .h
  | .ldCL => .ldReg .c .l
  | .ldCIndHl => .ldFromHl .c
  | .ldCA => .ldReg .c .a
  | .ldDB => .ldReg .d .b
  | .ldDC => .ldReg .d .c
  | .ldDD => .ldReg .d .d
  | .ldDE => .ldReg .d .e
  | .ldDH => .ldReg .d .h
  | .ldDL => .ldReg .d .l
  | .ldDIndHl => .ldFromHl .d
  | .ldDA => .ldReg .d .a
  | .ldEB => .ldReg .e .b
  | .ldEC => .ldReg .e .c
  | .ldED => .ldReg .e .d
  | .ldEE => .ldReg .e .e
  | .ldEH => .ldReg .e .h
  | .ldEL => .ldReg .e .l
  | .ldEIndHl => .ldFromHl .e
  | .ldEA => .ldReg .e .a
  | .ldHB => .ldReg .h .b
  | .ldHC => .ldReg .h .c
  | .ldHD => .ldReg .h .d
  | .ldHE => .ldReg .h .e
  | .ldHH => .ldReg .h .h
  | .ldHL => .ldReg .h .l
  | .ldHIndHl => .ldFromHl .h
  | .ldHA => .ldReg .h .a
  | .ldLB => .ldReg .l .b
  | .ldLC => .ldReg .l .c
  | .ldLD => .ldReg .l .d
  | .ldLE => .ldReg .l .e
  | .ldLH => .ldReg .l .h
  | .ldLL => .ldReg .l .l
  | .ldLIndHl => .ldFromHl .l
  | .ldLA => .ldReg .l .a
  | .ldIndHlB => .ldToHl .b
  | .ldIndHlC => .ldToHl .c
  | .ldIndHlD => .ldToHl .d
  | .ldIndHlE => .ldToHl .e
  | .ldIndHlH => .ldToHl .h
  | .ldIndHlL => .ldToHl .l
  | .halt => .halt
  | .ldIndHlA => .ldToHl .a
  | .ldAB => .ldReg .a .b
  | .ldAC => .ldReg .a .c
  | .ldAD => .ldReg .a .d
  | .ldAE => .ldReg .a .e
  | .ldAH => .ldReg .a .h
  | .ldAL => .ldReg .a .l
  | .ldAIndHl => .ldFromHl .a
  | .ldAA => .ldReg .a .a
  | .addAB => .aluReg .add .b
  | .addAC => .aluReg .add .c
  | .addAD => .aluReg .add .d
  | .addAE => .aluReg .add .e
  | .addAH => .aluReg .add .h
  | .addAL => .aluReg .add .l
  | .addAIndHl => .aluHl .add
  | .addAA => .aluReg .add .a
  | .adcAB => .aluReg .adc .b
  | .adcAC => .aluReg .adc .c
  | .adcAD => .aluReg .adc .d
  | .adcAE => .aluReg .adc .e
  | .adcAH => .aluReg .adc .h
  | .adcAL => .aluReg .adc .l
  | .adcAIndHl => .aluHl .adc
  | .adcAA => .aluReg .adc .a
  | .subB => .aluReg .sub .b
  | .subC => .aluReg .sub .c
  | .subD => .aluReg .sub .d
  | .subE => .aluReg .sub .e
  | .subH => .aluReg .sub .h
  | .subL => .aluReg .sub .l
  | .subIndHl => .aluHl .sub
  | .subA => .aluReg .sub .a
  | .sbcAB => .aluReg .sbc .b
  | .sbcAC => .aluReg .sbc .c
  | .sbcAD => .aluReg .sbc .d
  | .sbcAE => .aluReg .sbc .e
  | .sbcAH => .aluReg .sbc .h
  | .sbcAL => .aluReg .sbc .l
  | .sbcAIndHl => .aluHl .sbc
  | .sbcAA => .aluReg .sbc .a
  | .andB => .aluReg .and .b
  | .andC => .aluReg .and .c
  | .andD => .aluReg .and .d
  | .andE => .aluReg .and .e
  | .andH => .aluReg .and .h
  | .andL => .aluReg .and .l
  | .andIndHl => .aluHl .and
  | .andA => .aluReg .and .a
  | .xorB => .aluReg .xor .b
  | .xorC => .aluReg .xor .c
  | .xorD => .aluReg .xor .d
  | .xorE => .aluReg .xor .e
  | .xorH => .aluReg .xor .h
  | .xorL => .aluReg .xor .l
  | .xorIndHl => .aluHl .xor
  | .xorA => .aluReg .xor .a
  | .orB => .aluReg .or .b
  | .orC => .aluReg .or .c
  | .orD => .aluReg .or .d
  | .orE => .aluReg .or .e
  | .orH => .aluReg .or .h
  | .orL => .aluReg .or .l
  | .orIndHl => .aluHl .or
  | .orA => .aluReg .or .a
  | .cpB => .aluReg .cp .b
  | .cpC => .aluReg .cp .c
  | .cpD => .aluReg .cp .d
  | .cpE => .aluReg .cp .e
  | .cpH => .aluReg .cp .h
  | .cpL => .aluReg .cp .l
  | .cpIndHl => .aluHl .cp
  | .cpA => .aluReg .cp .a
  | .retNz => .retIf .nz
  | .popBc => .pop .bc
  | .jpNzN16 nn => .jpIf nn .nz
  | .jpN16 nn => .jpN16 nn
  | .callNzN16 nn => .callIf nn .nz
  | .pushBc => .push .bc
  | .addAN8 n => .aluImm n .add
  | .rst00 => .rst 0
  | .retZ => .retIf .z
  | .ret => .ret
  | .jpZN16 nn => .jpIf nn .z
  | .prefixCb op2 => .prefixCb op2
  | .callZN16 nn => .callIf nn .z
  | .callN16 nn => .callN16 nn
  | .adcAN8 n => .aluImm n .adc
  | .rst08 => .rst 1
  | .retNc => .retIf .nc
  | .popDe => .pop .de
  | .jpNcN16 nn => .jpIf nn .nc
  | .undefinedD3 => .undefinedD3
  | .callNcN16 nn => .callIf nn .nc
  | .pushDe => .push .de
  | .subN8 n => .aluImm n .sub
  | .rst10 => .rst 2
  | .retC => .retIf .c
  | .reti => .reti
  | .jpCN16 nn => .jpIf nn .c
  | .undefinedDb => .undefinedDb
  | .callCN16 nn => .callIf nn .c
  | .undefinedDd => .undefinedDd
  | .sbcAN8 n => .aluImm n .sbc
  | .rst18 => .rst 3
  | .ldhIndN8A n => .ldhIndN8A n
  | .popHl => .pop .hl
  | .ldhIndCA => .ldhIndCA
  | .undefinedE3 => .undefinedE3
  | .undefinedE4 => .undefinedE4
  | .pushHl => .push .hl
  | .andN8 n => .aluImm n .and
  | .rst20 => .rst 4
  | .addSpOff e => .addSpOff e
  | .jpHl => .jpHl
  | .ldIndN16A nn => .ldIndN16A nn
  | .undefinedEb => .undefinedEb
  | .undefinedEc => .undefinedEc
  | .undefinedEd => .undefinedEd
  | .xorN8 n => .aluImm n .xor
  | .rst28 => .rst 5
  | .ldhAIndN8 n => .ldhAIndN8 n
  | .popAf => .pop .af
  | .ldhAIndC => .ldhAIndC
  | .di => .di
  | .undefinedF4 => .undefinedF4
  | .pushAf => .push .af
  | .orN8 n => .aluImm n .or
  | .rst30 => .rst 6
  | .ldHlSpOff e => .ldHlSpOff e
  | .ldSpHl => .ldSpHl
  | .ldAIndN16 nn => .ldAIndN16 nn
  | .ei => .ei
  | .undefinedFc => .undefinedFc
  | .undefinedFd => .undefinedFd
  | .cpN8 n => .aluImm n .cp
  | .rst38 => .rst 7
  | .rlcB => .rotReg .rlc .b
  | .rlcC => .rotReg .rlc .c
  | .rlcD => .rotReg .rlc .d
  | .rlcE => .rotReg .rlc .e
  | .rlcH => .rotReg .rlc .h
  | .rlcL => .rotReg .rlc .l
  | .rlcIndHl => .rotHl .rlc
  | .rlcA => .rotReg .rlc .a
  | .rrcB => .rotReg .rrc .b
  | .rrcC => .rotReg .rrc .c
  | .rrcD => .rotReg .rrc .d
  | .rrcE => .rotReg .rrc .e
  | .rrcH => .rotReg .rrc .h
  | .rrcL => .rotReg .rrc .l
  | .rrcIndHl => .rotHl .rrc
  | .rrcA => .rotReg .rrc .a
  | .rlB => .rotReg .rl .b
  | .rlC => .rotReg .rl .c
  | .rlD => .rotReg .rl .d
  | .rlE => .rotReg .rl .e
  | .rlH => .rotReg .rl .h
  | .rlL => .rotReg .rl .l
  | .rlIndHl => .rotHl .rl
  | .rlA => .rotReg .rl .a
  | .rrB => .rotReg .rr .b
  | .rrC => .rotReg .rr .c
  | .rrD => .rotReg .rr .d
  | .rrE => .rotReg .rr .e
  | .rrH => .rotReg .rr .h
  | .rrL => .rotReg .rr .l
  | .rrIndHl => .rotHl .rr
  | .rrA => .rotReg .rr .a
  | .slaB => .rotReg .sla .b
  | .slaC => .rotReg .sla .c
  | .slaD => .rotReg .sla .d
  | .slaE => .rotReg .sla .e
  | .slaH => .rotReg .sla .h
  | .slaL => .rotReg .sla .l
  | .slaIndHl => .rotHl .sla
  | .slaA => .rotReg .sla .a
  | .sraB => .rotReg .sra .b
  | .sraC => .rotReg .sra .c
  | .sraD => .rotReg .sra .d
  | .sraE => .rotReg .sra .e
  | .sraH => .rotReg .sra .h
  | .sraL => .rotReg .sra .l
  | .sraIndHl => .rotHl .sra
  | .sraA => .rotReg .sra .a
  | .swapB => .rotReg .swap .b
  | .swapC => .rotReg .swap .c
  | .swapD => .rotReg .swap .d
  | .swapE => .rotReg .swap .e
  | .swapH => .rotReg .swap .h
  | .swapL => .rotReg .swap .l
  | .swapIndHl => .rotHl .swap
  | .swapA => .rotReg .swap .a
  | .srlB => .rotReg .srl .b
  | .srlC => .rotReg .srl .c
  | .srlD => .rotReg .srl .d
  | .srlE => .rotReg .srl .e
  | .srlH => .rotReg .srl .h
  | .srlL => .rotReg .srl .l
  | .srlIndHl => .rotHl .srl
  | .srlA => .rotReg .srl .a
  | .bit0B => .bitReg 0 .b
  | .bit0C => .bitReg 0 .c
  | .bit0D => .bitReg 0 .d
  | .bit0E => .bitReg 0 .e
  | .bit0H => .bitReg 0 .h
  | .bit0L => .bitReg 0 .l
  | .bit0IndHl => .bitHl 0
  | .bit0A => .bitReg 0 .a
  | .bit1B => .bitReg 1 .b
  | .bit1C => .bitReg 1 .c
  | .bit1D => .bitReg 1 .d
  | .bit1E => .bitReg 1 .e
  | .bit1H => .bitReg 1 .h
  | .bit1L => .bitReg 1 .l
  | .bit1IndHl => .bitHl 1
  | .bit1A => .bitReg 1 .a
  | .bit2B => .bitReg 2 .b
  | .bit2C => .bitReg 2 .c
  | .bit2D => .bitReg 2 .d
  | .bit2E => .bitReg 2 .e
  | .bit2H => .bitReg 2 .h
  | .bit2L => .bitReg 2 .l
  | .bit2IndHl => .bitHl 2
  | .bit2A => .bitReg 2 .a
  | .bit3B => .bitReg 3 .b
  | .bit3C => .bitReg 3 .c
  | .bit3D => .bitReg 3 .d
  | .bit3E => .bitReg 3 .e
  | .bit3H => .bitReg 3 .h
  | .bit3L => .bitReg 3 .l
  | .bit3IndHl => .bitHl 3
  | .bit3A => .bitReg 3 .a
  | .bit4B => .bitReg 4 .b
  | .bit4C => .bitReg 4 .c
  | .bit4D => .bitReg 4 .d
  | .bit4E => .bitReg 4 .e
  | .bit4H => .bitReg 4 .h
  | .bit4L => .bitReg 4 .l
  | .bit4IndHl => .bitHl 4
  | .bit4A => .bitReg 4 .a
  | .bit5B => .bitReg 5 .b
  | .bit5C => .bitReg 5 .c
  | .bit5D => .bitReg 5 .d
  | .bit5E => .bitReg 5 .e
  | .bit5H => .bitReg 5 .h
  | .bit5L => .bitReg 5 .l
  | .bit5IndHl => .bitHl 5
  | .bit5A => .bitReg 5 .a
  | .bit6B => .bitReg 6 .b
  | .bit6C => .bitReg 6 .c
  | .bit6D => .bitReg 6 .d
  | .bit6E => .bitReg 6 .e
  | .bit6H => .bitReg 6 .h
  | .bit6L => .bitReg 6 .l
  | .bit6IndHl => .bitHl 6
  | .bit6A => .bitReg 6 .a
  | .bit7B => .bitReg 7 .b
  | .bit7C => .bitReg 7 .c
  | .bit7D => .bitReg 7 .d
  | .bit7E => .bitReg 7 .e
  | .bit7H => .bitReg 7 .h
  | .bit7L => .bitReg 7 .l
  | .bit7IndHl => .bitHl 7
  | .bit7A => .bitReg 7 .a
  | .res0B => .resReg 0 .b
  | .res0C => .resReg 0 .c
  | .res0D => .resReg 0 .d
  | .res0E => .resReg 0 .e
  | .res0H => .resReg 0 .h
  | .res0L => .resReg 0 .l
  | .res0IndHl => .resHl 0
  | .res0A => .resReg 0 .a
  | .res1B => .resReg 1 .b
  | .res1C => .resReg 1 .c
  | .res1D => .resReg 1 .d
  | .res1E => .resReg 1 .e
  | .res1H => .resReg 1 .h
  | .res1L => .resReg 1 .l
  | .res1IndHl => .resHl 1
  | .res1A => .resReg 1 .a
  | .res2B => .resReg 2 .b
  | .res2C => .resReg 2 .c
  | .res2D => .resReg 2 .d
  | .res2E => .resReg 2 .e
  | .res2H => .resReg 2 .h
  | .res2L => .resReg 2 .l
  | .res2IndHl => .resHl 2
  | .res2A => .resReg 2 .a
  | .res3B => .resReg 3 .b
  | .res3C => .resReg 3 .c
  | .res3D => .resReg 3 .d
  | .res3E => .resReg 3 .e
  | .res3H => .resReg 3 .h
  | .res3L => .resReg 3 .l
  | .res3IndHl => .resHl 3
  | .res3A => .resReg 3 .a
  | .res4B => .resReg 4 .b
  | .res4C => .resReg 4 .c
  | .res4D => .resReg 4 .d
  | .res4E => .resReg 4 .e
  | .res4H => .resReg 4 .h
  | .res4L => .resReg 4 .l
  | .res4IndHl => .resHl 4
  | .res4A => .resReg 4 .a
  | .res5B => .resReg 5 .b
  | .res5C => .resReg 5 .c
  | .res5D => .resReg 5 .d
  | .res5E => .resReg 5 .e
  | .res5H => .resReg 5 .h
  | .res5L => .resReg 5 .l
  | .res5IndHl => .resHl 5
  | .res5A => .resReg 5 .a
  | .res6B => .resReg 6 .b
  | .res6C => .resReg 6 .c
  | .res6D => .resReg 6 .d
  | .res6E => .resReg 6 .e
  | .res6H => .resReg 6 .h
  | .res6L => .resReg 6 .l
  | .res6IndHl => .resHl 6
  | .res6A => .resReg 6 .a
  | .res7B => .resReg 7 .b
  | .res7C => .resReg 7 .c
  | .res7D => .resReg 7 .d
  | .res7E => .resReg 7 .e
  | .res7H => .resReg 7 .h
  | .res7L => .resReg 7 .l
  | .res7IndHl => .resHl 7
  | .res7A => .resReg 7 .a
  | .set0B => .setReg 0 .b
  | .set0C => .setReg 0 .c
  | .set0D => .setReg 0 .d
  | .set0E => .setReg 0 .e
  | .set0H => .setReg 0 .h
  | .set0L => .setReg 0 .l
  | .set0IndHl => .setHl 0
  | .set0A => .setReg 0 .a
  | .set1B => .setReg 1 .b
  | .set1C => .setReg 1 .c
  | .set1D => .setReg 1 .d
  | .set1E => .setReg 1 .e
  | .set1H => .setReg 1 .h
  | .set1L => .setReg 1 .l
  | .set1IndHl => .setHl 1
  | .set1A => .setReg 1 .a
  | .set2B => .setReg 2 .b
  | .set2C => .setReg 2 .c
  | .set2D => .setReg 2 .d
  | .set2E => .setReg 2 .e
  | .set2H => .setReg 2 .h
  | .set2L => .setReg 2 .l
  | .set2IndHl => .setHl 2
  | .set2A => .setReg 2 .a
  | .set3B => .setReg 3 .b
  | .set3C => .setReg 3 .c
  | .set3D => .setReg 3 .d
  | .set3E => .setReg 3 .e
  | .set3H => .setReg 3 .h
  | .set3L => .setReg 3 .l
  | .set3IndHl => .setHl 3
  | .set3A => .setReg 3 .a
  | .set4B => .setReg 4 .b
  | .set4C => .setReg 4 .c
  | .set4D => .setReg 4 .d
  | .set4E => .setReg 4 .e
  | .set4H => .setReg 4 .h
  | .set4L => .setReg 4 .l
  | .set4IndHl => .setHl 4
  | .set4A => .setReg 4 .a
  | .set5B => .setReg 5 .b
  | .set5C => .setReg 5 .c
  | .set5D => .setReg 5 .d
  | .set5E => .setReg 5 .e
  | .set5H => .setReg 5 .h
  | .set5L => .setReg 5 .l
  | .set5IndHl => .setHl 5
  | .set5A => .setReg 5 .a
  | .set6B => .setReg 6 .b
  | .set6C => .setReg 6 .c
  | .set6D => .setReg 6 .d
  | .set6E => .setReg 6 .e
  | .set6H => .setReg 6 .h
  | .set6L => .setReg 6 .l
  | .set6IndHl => .setHl 6
  | .set6A => .setReg 6 .a
  | .set7B => .setReg 7 .b
  | .set7C => .setReg 7 .c
  | .set7D => .setReg 7 .d
  | .set7E => .setReg 7 .e
  | .set7H => .setReg 7 .h
  | .set7L => .setReg 7 .l
  | .set7IndHl => .setHl 7
  | .set7A => .setReg 7 .a

end Sys2Proof
end

