-- ==== Sys2Proof/Laws/Reach.lean ====
section
/-! SUPPORT. What an instruction can do to the machine, said once: bus accesses, changes of the CPU's registers,
a report, and STOP's reset of the counter; what all of these keep; and that every instruction is made of them
and reports 4 to 24 ticks. -/

namespace Sys2Proof.Machine

/-- The states an instruction can lead to from `s`. -/
inductive Reaches (s : State) : State → Prop where
  | refl : Reaches s s
  | read {u : State} (a : Word) (h : Reaches s u) : Reaches s (busReadEffect u a)
  | write {u : State} (a : Word) (v : Byte) (h : Reaches s u) : Reaches s (busWrite u a v)
  | cpu {u : State} (c : Cpu) (h : Reaches s u) : Reaches s { u with cpu := c }
  | report {u : State} (r : Report) (h : Reaches s u) : Reaches s (u.report r)
  | counter {u : State} (h : Reaches s u) : Reaches s { u with timer := { u.timer with counter := 0#16 } }

/-! ## What they keep -/

theorem Reaches.cfg_eq {s t : State} (h : Reaches s t) : t.cfg = s.cfg := by
  induction h <;> simp_all

theorem Reaches.dispatch_eq {s t : State} (h : Reaches s t) : t.irq.dispatch = s.irq.dispatch := by
  induction h <;> simp_all

theorem Reaches.mode_eq {s t : State} (h : Reaches s t) : t.ppu.mode = s.ppu.mode := by
  induction h <;> simp_all

theorem Reaches.dot_eq {s t : State} (h : Reaches s t) : t.ppu.dot = s.ppu.dot := by
  induction h <;> simp_all

theorem Reaches.line_eq {s t : State} (h : Reaches s t) : t.ppu.line = s.ppu.line := by
  induction h <;> simp_all

theorem Reaches.x_eq {s t : State} (h : Reaches s t) : t.ppu.x = s.ppu.x := by
  induction h <;> simp_all

theorem Reaches.slots_eq {s t : State} (h : Reaches s t) : t.ppu.slots = s.ppu.slots := by
  induction h <;> simp_all

theorem Reaches.fb_eq {s t : State} (h : Reaches s t) : t.ppu.fb = s.ppu.fb := by
  induction h <;> simp_all

theorem Reaches.wf {s t : State} (h : Reaches s t) (hs : s.mem.wf = true) : t.mem.wf = true := by
  induction h with
  | refl => exact hs
  | read a _ ih => simpa using ih
  | write a v _ ih => exact busWrite_wf _ a v ih
  | cpu c _ ih => exact ih
  | report r _ ih => exact ih
  | counter _ ih => exact ih

/-- ROM is never written (20 R96). -/
theorem busWrite_rom (s : State) (a : Word) (v : Byte) (k : Nat) (hk : k < 0x8000) :
    (busWrite s a v).mem.read k = s.mem.read k := by
  refine busWrite_read_ne s a v k ?_ ?_ ?_ ?_ (fun _ => Or.inl (by omega)) <;> intro h
  · have := busDecode_vram a k h; omega
  · have := busDecode_wram a k h; omega
  · have := busDecode_oam a k h; omega
  · have := busDecode_hram a k h; omega

theorem Reaches.rom {s t : State} (h : Reaches s t) (k : Nat) (hk : k < 0x8000) : t.mem.read k = s.mem.read k := by
  induction h with
  | refl => rfl
  | read a _ ih => simpa using ih
  | write a v _ ih => rw [busWrite_rom _ a v k hk, ih]
  | cpu c _ ih => exact ih
  | report r _ ih => exact ih
  | counter _ ih => exact ih

theorem Reaches.push {s u : State} (v : Byte) (h : Reaches s u) : Reaches s (pushByte u v) := .write _ _ (.cpu _ h)

theorem Reaches.push16 {s u : State} (v : Word) (h : Reaches s u) : Reaches s (push16 u v) := (h.push _).push _

theorem Reaches.pop {s u : State} (h : Reaches s u) : Reaches s (popByte u).2 := .cpu _ (.read _ h)

theorem Reaches.pop16 {s u : State} (h : Reaches s u) : Reaches s (pop16 u).2 := h.pop.pop

/-! ## Every instruction -/

/-- A tick count an instruction may report (40 R178). -/
def TicksOk (n : Nat) : Prop := n % 4 = 0 ∧ 4 ≤ n ∧ n ≤ 24

/-- What every meaning's next state satisfies. -/
def Fine (s t : State) : Prop := Reaches s t ∧ TicksOk t.cpu.ticks

theorem Reaches.fine_advance {s u : State} (h : Reaches s u) (len : Word) (n : Nat) (hn : TicksOk n) :
    Fine s (u.advance len n) := ⟨.cpu _ h, hn⟩

theorem Reaches.fine_jump {s u : State} (h : Reaches s u) (target : Word) (n : Nat) (hn : TicksOk n) :
    Fine s (u.jump target n) := ⟨.cpu _ h, hn⟩

theorem haltOp_fine (s : State) : Fine s (haltOp s) := by
  unfold haltOp
  split <;> exact (Reaches.cpu _ .refl).fine_advance _ _ (by unfold TicksOk; omega)

theorem stopOp_fine (s : State) :
    Fine s (stopOp s) :=
  (Reaches.cpu _ (.counter .refl)).fine_advance _ _ (by unfold TicksOk; omega)

theorem enableOp_fine (s : State) :
    Fine s (enableOp s) :=
  (Reaches.cpu _ .refl).fine_advance _ _ (by unfold TicksOk; omega)

theorem disableOp_fine (s : State) :
    Fine s (disableOp s) :=
  (Reaches.cpu _ .refl).fine_advance _ _ (by unfold TicksOk; omega)

theorem undefinedOp_fine (s : State) (op : Byte) :
    Fine s (undefinedOp op s) :=
  (Reaches.report _ .refl).fine_advance _ _ (by unfold TicksOk; omega)

theorem loadReg_fine (s : State) (dst src : Reg8) :
    Fine s (loadReg dst src s) :=
  (Reaches.cpu _ .refl).fine_advance _ _ (by unfold TicksOk; omega)

theorem loadImm_fine (s : State) (dst : Reg8) (n : Byte) :
    Fine s (loadImm dst n s) :=
  (Reaches.cpu _ .refl).fine_advance _ _ (by unfold TicksOk; omega)

theorem loadFromHl_fine (s : State) (dst : Reg8) :
    Fine s (loadFromHl dst s) :=
  (Reaches.cpu _ (.read _ .refl)).fine_advance _ _ (by unfold TicksOk; omega)

theorem storeToHl_fine (s : State) (src : Reg8) :
    Fine s (storeToHl src s) :=
  (Reaches.write _ _ .refl).fine_advance _ _ (by unfold TicksOk; omega)

theorem storeImmToHl_fine (s : State) (n : Byte) :
    Fine s (storeImmToHl n s) :=
  (Reaches.write _ _ .refl).fine_advance _ _ (by unfold TicksOk; omega)

theorem loadA_fine (s : State) (ea len : Word) (n : Nat) (hn : TicksOk n) :
    Fine s (loadA ea len n s) :=
  (Reaches.cpu _ (.read _ .refl)).fine_advance _ _ hn

theorem storeA_fine (s : State) (ea len : Word) (n : Nat) (hn : TicksOk n) :
    Fine s (storeA ea len n s) :=
  (Reaches.write _ _ .refl).fine_advance _ _ hn

theorem loadAStep_fine (s : State) (v : Word) :
    Fine s (loadAStep v s) :=
  (Reaches.cpu _ (.cpu _ (.read _ .refl))).fine_advance _ _ (by unfold TicksOk; omega)

theorem storeAStep_fine (s : State) (v : Word) :
    Fine s (storeAStep v s) :=
  (Reaches.cpu _ (.write _ _ .refl)).fine_advance _ _ (by unfold TicksOk; omega)

theorem loadPair_fine (s : State) (p : Pair) (nn : Word) :
    Fine s (loadPair p nn s) :=
  (Reaches.cpu _ .refl).fine_advance _ _ (by unfold TicksOk; omega)

theorem storeSp_fine (s : State) (nn : Word) :
    Fine s (storeSp nn s) :=
  (Reaches.write _ _ (.write _ _ .refl)).fine_advance _ _ (by unfold TicksOk; omega)

theorem loadSpHl_fine (s : State) :
    Fine s (loadSpHl s) :=
  (Reaches.cpu _ .refl).fine_advance _ _ (by unfold TicksOk; omega)

theorem loadHlSpOff_fine (s : State) (e : Byte) :
    Fine s (loadHlSpOff e s) :=
  (Reaches.cpu _ .refl).fine_advance _ _ (by unfold TicksOk; omega)

theorem pushPair_fine (s : State) (p : StackPair) :
    Fine s (pushPair p s) :=
  (Reaches.refl.push16 _).fine_advance _ _ (by unfold TicksOk; omega)

theorem popPair_fine (s : State) (p : StackPair) :
    Fine s (popPair p s) :=
  (Reaches.cpu _ Reaches.refl.pop16).fine_advance _ _ (by unfold TicksOk; omega)

theorem aluReg_fine (s : State) (op : AluOp) (r : Reg8) :
    Fine s (aluReg op r s) :=
  (Reaches.cpu _ .refl).fine_advance _ _ (by unfold TicksOk; omega)

theorem aluHl_fine (s : State) (op : AluOp) :
    Fine s (aluHl op s) :=
  (Reaches.cpu _ (.read _ .refl)).fine_advance _ _ (by unfold TicksOk; omega)

theorem aluImm_fine (s : State) (op : AluOp) (n : Byte) :
    Fine s (aluImm op n s) :=
  (Reaches.cpu _ .refl).fine_advance _ _ (by unfold TicksOk; omega)

theorem incReg_fine (s : State) (r : Reg8) :
    Fine s (incReg r s) :=
  (Reaches.cpu _ .refl).fine_advance _ _ (by unfold TicksOk; omega)

theorem decReg_fine (s : State) (r : Reg8) :
    Fine s (decReg r s) :=
  (Reaches.cpu _ .refl).fine_advance _ _ (by unfold TicksOk; omega)

theorem incHl_fine (s : State) :
    Fine s (incHl s) :=
  (Reaches.cpu _ (.write _ _ (.read _ .refl))).fine_advance _ _ (by unfold TicksOk; omega)

theorem decHl_fine (s : State) :
    Fine s (decHl s) :=
  (Reaches.cpu _ (.write _ _ (.read _ .refl))).fine_advance _ _ (by unfold TicksOk; omega)

theorem daaOp_fine (s : State) :
    Fine s (daaOp s) :=
  (Reaches.cpu _ .refl).fine_advance _ _ (by unfold TicksOk; omega)

theorem complementOp_fine (s : State) :
    Fine s (complementOp s) :=
  (Reaches.cpu _ .refl).fine_advance _ _ (by unfold TicksOk; omega)

theorem setCarryOp_fine (s : State) :
    Fine s (setCarryOp s) :=
  (Reaches.cpu _ .refl).fine_advance _ _ (by unfold TicksOk; omega)

theorem flipCarryOp_fine (s : State) :
    Fine s (flipCarryOp s) :=
  (Reaches.cpu _ .refl).fine_advance _ _ (by unfold TicksOk; omega)

theorem addHlPair_fine (s : State) (p : Pair) :
    Fine s (addHlPair p s) :=
  (Reaches.cpu _ .refl).fine_advance _ _ (by unfold TicksOk; omega)

theorem incPair_fine (s : State) (p : Pair) :
    Fine s (incPair p s) :=
  (Reaches.cpu _ .refl).fine_advance _ _ (by unfold TicksOk; omega)

theorem decPair_fine (s : State) (p : Pair) :
    Fine s (decPair p s) :=
  (Reaches.cpu _ .refl).fine_advance _ _ (by unfold TicksOk; omega)

theorem addSpOffset_fine (s : State) (e : Byte) :
    Fine s (addSpOffset e s) :=
  (Reaches.cpu _ .refl).fine_advance _ _ (by unfold TicksOk; omega)

theorem rotateA_fine (s : State) (op : RotOp) :
    Fine s (rotateA op s) :=
  (Reaches.cpu _ .refl).fine_advance _ _ (by unfold TicksOk; omega)

theorem rotReg_fine (s : State) (op : RotOp) (r : Reg8) :
    Fine s (rotReg op r s) :=
  (Reaches.cpu _ .refl).fine_advance _ _ (by unfold TicksOk; omega)

theorem rotHl_fine (s : State) (op : RotOp) :
    Fine s (rotHl op s) :=
  (Reaches.cpu _ (.write _ _ (.read _ .refl))).fine_advance _ _ (by unfold TicksOk; omega)

theorem bitTestReg_fine (s : State) (b : Fin 8) (r : Reg8) :
    Fine s (bitTestReg b r s) :=
  (Reaches.cpu _ .refl).fine_advance _ _ (by unfold TicksOk; omega)

theorem bitTestHl_fine (s : State) (b : Fin 8) :
    Fine s (bitTestHl b s) :=
  (Reaches.cpu _ (.read _ .refl)).fine_advance _ _ (by unfold TicksOk; omega)

theorem bitResetReg_fine (s : State) (b : Fin 8) (r : Reg8) :
    Fine s (bitResetReg b r s) :=
  (Reaches.cpu _ .refl).fine_advance _ _ (by unfold TicksOk; omega)

theorem bitResetHl_fine (s : State) (b : Fin 8) :
    Fine s (bitResetHl b s) :=
  (Reaches.write _ _ (.read _ .refl)).fine_advance _ _ (by unfold TicksOk; omega)

theorem bitSetReg_fine (s : State) (b : Fin 8) (r : Reg8) :
    Fine s (bitSetReg b r s) :=
  (Reaches.cpu _ .refl).fine_advance _ _ (by unfold TicksOk; omega)

theorem bitSetHl_fine (s : State) (b : Fin 8) :
    Fine s (bitSetHl b s) :=
  (Reaches.write _ _ (.read _ .refl)).fine_advance _ _ (by unfold TicksOk; omega)

theorem extendedOp_fine (s : State) (op2 : Byte) : Fine s (extendedOp op2 s) := by
  unfold extendedOp
  dsimp only
  split
  · exact rotReg_fine s _ _
  · exact rotHl_fine s _
  · exact bitTestReg_fine s _ _
  · exact bitTestHl_fine s _
  · exact bitResetReg_fine s _ _
  · exact bitResetHl_fine s _
  · exact bitSetReg_fine s _ _
  · exact bitSetHl_fine s _

theorem jumpTo_fine (s : State) (nn : Word) :
    Fine s (jumpTo nn s) :=
  Reaches.refl.fine_jump _ _ (by unfold TicksOk; omega)

theorem jumpIf_fine (s : State) (cc : Cond) (nn : Word) : Fine s (jumpIf cc nn s) := by
  unfold jumpIf
  split
  · exact Reaches.refl.fine_jump _ _ (by unfold TicksOk; omega)
  · exact Reaches.refl.fine_advance _ _ (by unfold TicksOk; omega)

theorem jumpHl_fine (s : State) : Fine s (jumpHl s) := Reaches.refl.fine_jump _ _ (by unfold TicksOk; omega)

theorem jumpRel_fine (s : State) (e : Byte) :
    Fine s (jumpRel e s) :=
  Reaches.refl.fine_jump _ _ (by unfold TicksOk; omega)

theorem jumpRelIf_fine (s : State) (cc : Cond) (e : Byte) : Fine s (jumpRelIf cc e s) := by
  unfold jumpRelIf
  split
  · exact Reaches.refl.fine_jump _ _ (by unfold TicksOk; omega)
  · exact Reaches.refl.fine_advance _ _ (by unfold TicksOk; omega)

theorem callTo_fine (s : State) (nn : Word) :
    Fine s (callTo nn s) :=
  (Reaches.refl.push16 _).fine_jump _ _ (by unfold TicksOk; omega)

theorem callIf_fine (s : State) (cc : Cond) (nn : Word) : Fine s (callIf cc nn s) := by
  unfold callIf
  split
  · exact callTo_fine s nn
  · exact Reaches.refl.fine_advance _ _ (by unfold TicksOk; omega)

theorem returnTo_fine (s : State) :
    Fine s (returnTo s) :=
  Reaches.refl.pop16.fine_jump _ _ (by unfold TicksOk; omega)

theorem returnIf_fine (s : State) (cc : Cond) : Fine s (returnIf cc s) := by
  unfold returnIf
  split
  · exact Reaches.refl.pop16.fine_jump _ _ (by unfold TicksOk; omega)
  · exact Reaches.refl.fine_advance _ _ (by unfold TicksOk; omega)

theorem restart_fine (s : State) (y : Fin 8) :
    Fine s (restart y s) :=
  (Reaches.refl.push16 _).fine_jump _ _ (by unfold TicksOk; omega)

theorem returnFromInterrupt_fine (s : State) :
    Fine s (returnFromInterrupt s) :=
  (Reaches.cpu _ Reaches.refl.pop16).fine_jump _ _ (by unfold TicksOk; omega)

/-- Every instruction answers a next state made of bus accesses and changes of the CPU's registers. -/
theorem exec_fine (i : Instr) (s : State) : ∃ t, exec i s = .next t ∧ Fine s t := by
  match i with
  | .nop => exact ⟨_, rfl, Reaches.refl.fine_advance _ _ (by unfold TicksOk; omega)⟩
  | .ldBcN16 nn => exact ⟨_, rfl, loadPair_fine s _ _⟩
  | .ldIndBcA => exact ⟨_, rfl, storeA_fine s _ _ _ (by unfold TicksOk; omega)⟩
  | .incBc => exact ⟨_, rfl, incPair_fine s _⟩
  | .incB => exact ⟨_, rfl, incReg_fine s _⟩
  | .decB => exact ⟨_, rfl, decReg_fine s _⟩
  | .ldBN8 n => exact ⟨_, rfl, loadImm_fine s _ _⟩
  | .rlca => exact ⟨_, rfl, rotateA_fine s _⟩
  | .ldIndN16Sp nn => exact ⟨_, rfl, storeSp_fine s _⟩
  | .addHlBc => exact ⟨_, rfl, addHlPair_fine s _⟩
  | .ldAIndBc => exact ⟨_, rfl, loadA_fine s _ _ _ (by unfold TicksOk; omega)⟩
  | .decBc => exact ⟨_, rfl, decPair_fine s _⟩
  | .incC => exact ⟨_, rfl, incReg_fine s _⟩
  | .decC => exact ⟨_, rfl, decReg_fine s _⟩
  | .ldCN8 n => exact ⟨_, rfl, loadImm_fine s _ _⟩
  | .rrca => exact ⟨_, rfl, rotateA_fine s _⟩
  | .stop => exact ⟨_, rfl, stopOp_fine s⟩
  | .ldDeN16 nn => exact ⟨_, rfl, loadPair_fine s _ _⟩
  | .ldIndDeA => exact ⟨_, rfl, storeA_fine s _ _ _ (by unfold TicksOk; omega)⟩
  | .incDe => exact ⟨_, rfl, incPair_fine s _⟩
  | .incD => exact ⟨_, rfl, incReg_fine s _⟩
  | .decD => exact ⟨_, rfl, decReg_fine s _⟩
  | .ldDN8 n => exact ⟨_, rfl, loadImm_fine s _ _⟩
  | .rla => exact ⟨_, rfl, rotateA_fine s _⟩
  | .jrOff e => exact ⟨_, rfl, jumpRel_fine s _⟩
  | .addHlDe => exact ⟨_, rfl, addHlPair_fine s _⟩
  | .ldAIndDe => exact ⟨_, rfl, loadA_fine s _ _ _ (by unfold TicksOk; omega)⟩
  | .decDe => exact ⟨_, rfl, decPair_fine s _⟩
  | .incE => exact ⟨_, rfl, incReg_fine s _⟩
  | .decE => exact ⟨_, rfl, decReg_fine s _⟩
  | .ldEN8 n => exact ⟨_, rfl, loadImm_fine s _ _⟩
  | .rra => exact ⟨_, rfl, rotateA_fine s _⟩
  | .jrNzOff e => exact ⟨_, rfl, jumpRelIf_fine s _ _⟩
  | .ldHlN16 nn => exact ⟨_, rfl, loadPair_fine s _ _⟩
  | .ldIndHlIncA => exact ⟨_, rfl, storeAStep_fine s _⟩
  | .incHl => exact ⟨_, rfl, incPair_fine s _⟩
  | .incH => exact ⟨_, rfl, incReg_fine s _⟩
  | .decH => exact ⟨_, rfl, decReg_fine s _⟩
  | .ldHN8 n => exact ⟨_, rfl, loadImm_fine s _ _⟩
  | .daa => exact ⟨_, rfl, daaOp_fine s⟩
  | .jrZOff e => exact ⟨_, rfl, jumpRelIf_fine s _ _⟩
  | .addHlHl => exact ⟨_, rfl, addHlPair_fine s _⟩
  | .ldAIndHlInc => exact ⟨_, rfl, loadAStep_fine s _⟩
  | .decHl => exact ⟨_, rfl, decPair_fine s _⟩
  | .incL => exact ⟨_, rfl, incReg_fine s _⟩
  | .decL => exact ⟨_, rfl, decReg_fine s _⟩
  | .ldLN8 n => exact ⟨_, rfl, loadImm_fine s _ _⟩
  | .cpl => exact ⟨_, rfl, complementOp_fine s⟩
  | .jrNcOff e => exact ⟨_, rfl, jumpRelIf_fine s _ _⟩
  | .ldSpN16 nn => exact ⟨_, rfl, loadPair_fine s _ _⟩
  | .ldIndHlDecA => exact ⟨_, rfl, storeAStep_fine s _⟩
  | .incSp => exact ⟨_, rfl, incPair_fine s _⟩
  | .incIndHl => exact ⟨_, rfl, incHl_fine s⟩
  | .decIndHl => exact ⟨_, rfl, decHl_fine s⟩
  | .ldIndHlN8 n => exact ⟨_, rfl, storeImmToHl_fine s _⟩
  | .scf => exact ⟨_, rfl, setCarryOp_fine s⟩
  | .jrCOff e => exact ⟨_, rfl, jumpRelIf_fine s _ _⟩
  | .addHlSp => exact ⟨_, rfl, addHlPair_fine s _⟩
  | .ldAIndHlDec => exact ⟨_, rfl, loadAStep_fine s _⟩
  | .decSp => exact ⟨_, rfl, decPair_fine s _⟩
  | .incA => exact ⟨_, rfl, incReg_fine s _⟩
  | .decA => exact ⟨_, rfl, decReg_fine s _⟩
  | .ldAN8 n => exact ⟨_, rfl, loadImm_fine s _ _⟩
  | .ccf => exact ⟨_, rfl, flipCarryOp_fine s⟩
  | .ldBB => exact ⟨_, rfl, loadReg_fine s _ _⟩
  | .ldBC => exact ⟨_, rfl, loadReg_fine s _ _⟩
  | .ldBD => exact ⟨_, rfl, loadReg_fine s _ _⟩
  | .ldBE => exact ⟨_, rfl, loadReg_fine s _ _⟩
  | .ldBH => exact ⟨_, rfl, loadReg_fine s _ _⟩
  | .ldBL => exact ⟨_, rfl, loadReg_fine s _ _⟩
  | .ldBIndHl => exact ⟨_, rfl, loadFromHl_fine s _⟩
  | .ldBA => exact ⟨_, rfl, loadReg_fine s _ _⟩
  | .ldCB => exact ⟨_, rfl, loadReg_fine s _ _⟩
  | .ldCC => exact ⟨_, rfl, loadReg_fine s _ _⟩
  | .ldCD => exact ⟨_, rfl, loadReg_fine s _ _⟩
  | .ldCE => exact ⟨_, rfl, loadReg_fine s _ _⟩
  | .ldCH => exact ⟨_, rfl, loadReg_fine s _ _⟩
  | .ldCL => exact ⟨_, rfl, loadReg_fine s _ _⟩
  | .ldCIndHl => exact ⟨_, rfl, loadFromHl_fine s _⟩
  | .ldCA => exact ⟨_, rfl, loadReg_fine s _ _⟩
  | .ldDB => exact ⟨_, rfl, loadReg_fine s _ _⟩
  | .ldDC => exact ⟨_, rfl, loadReg_fine s _ _⟩
  | .ldDD => exact ⟨_, rfl, loadReg_fine s _ _⟩
  | .ldDE => exact ⟨_, rfl, loadReg_fine s _ _⟩
  | .ldDH => exact ⟨_, rfl, loadReg_fine s _ _⟩
  | .ldDL => exact ⟨_, rfl, loadReg_fine s _ _⟩
  | .ldDIndHl => exact ⟨_, rfl, loadFromHl_fine s _⟩
  | .ldDA => exact ⟨_, rfl, loadReg_fine s _ _⟩
  | .ldEB => exact ⟨_, rfl, loadReg_fine s _ _⟩
  | .ldEC => exact ⟨_, rfl, loadReg_fine s _ _⟩
  | .ldED => exact ⟨_, rfl, loadReg_fine s _ _⟩
  | .ldEE => exact ⟨_, rfl, loadReg_fine s _ _⟩
  | .ldEH => exact ⟨_, rfl, loadReg_fine s _ _⟩
  | .ldEL => exact ⟨_, rfl, loadReg_fine s _ _⟩
  | .ldEIndHl => exact ⟨_, rfl, loadFromHl_fine s _⟩
  | .ldEA => exact ⟨_, rfl, loadReg_fine s _ _⟩
  | .ldHB => exact ⟨_, rfl, loadReg_fine s _ _⟩
  | .ldHC => exact ⟨_, rfl, loadReg_fine s _ _⟩
  | .ldHD => exact ⟨_, rfl, loadReg_fine s _ _⟩
  | .ldHE => exact ⟨_, rfl, loadReg_fine s _ _⟩
  | .ldHH => exact ⟨_, rfl, loadReg_fine s _ _⟩
  | .ldHL => exact ⟨_, rfl, loadReg_fine s _ _⟩
  | .ldHIndHl => exact ⟨_, rfl, loadFromHl_fine s _⟩
  | .ldHA => exact ⟨_, rfl, loadReg_fine s _ _⟩
  | .ldLB => exact ⟨_, rfl, loadReg_fine s _ _⟩
  | .ldLC => exact ⟨_, rfl, loadReg_fine s _ _⟩
  | .ldLD => exact ⟨_, rfl, loadReg_fine s _ _⟩
  | .ldLE => exact ⟨_, rfl, loadReg_fine s _ _⟩
  | .ldLH => exact ⟨_, rfl, loadReg_fine s _ _⟩
  | .ldLL => exact ⟨_, rfl, loadReg_fine s _ _⟩
  | .ldLIndHl => exact ⟨_, rfl, loadFromHl_fine s _⟩
  | .ldLA => exact ⟨_, rfl, loadReg_fine s _ _⟩
  | .ldIndHlB => exact ⟨_, rfl, storeToHl_fine s _⟩
  | .ldIndHlC => exact ⟨_, rfl, storeToHl_fine s _⟩
  | .ldIndHlD => exact ⟨_, rfl, storeToHl_fine s _⟩
  | .ldIndHlE => exact ⟨_, rfl, storeToHl_fine s _⟩
  | .ldIndHlH => exact ⟨_, rfl, storeToHl_fine s _⟩
  | .ldIndHlL => exact ⟨_, rfl, storeToHl_fine s _⟩
  | .halt => exact ⟨_, rfl, haltOp_fine s⟩
  | .ldIndHlA => exact ⟨_, rfl, storeToHl_fine s _⟩
  | .ldAB => exact ⟨_, rfl, loadReg_fine s _ _⟩
  | .ldAC => exact ⟨_, rfl, loadReg_fine s _ _⟩
  | .ldAD => exact ⟨_, rfl, loadReg_fine s _ _⟩
  | .ldAE => exact ⟨_, rfl, loadReg_fine s _ _⟩
  | .ldAH => exact ⟨_, rfl, loadReg_fine s _ _⟩
  | .ldAL => exact ⟨_, rfl, loadReg_fine s _ _⟩
  | .ldAIndHl => exact ⟨_, rfl, loadFromHl_fine s _⟩
  | .ldAA => exact ⟨_, rfl, loadReg_fine s _ _⟩
  | .addAB => exact ⟨_, rfl, aluReg_fine s _ _⟩
  | .addAC => exact ⟨_, rfl, aluReg_fine s _ _⟩
  | .addAD => exact ⟨_, rfl, aluReg_fine s _ _⟩
  | .addAE => exact ⟨_, rfl, aluReg_fine s _ _⟩
  | .addAH => exact ⟨_, rfl, aluReg_fine s _ _⟩
  | .addAL => exact ⟨_, rfl, aluReg_fine s _ _⟩
  | .addAIndHl => exact ⟨_, rfl, aluHl_fine s _⟩
  | .addAA => exact ⟨_, rfl, aluReg_fine s _ _⟩
  | .adcAB => exact ⟨_, rfl, aluReg_fine s _ _⟩
  | .adcAC => exact ⟨_, rfl, aluReg_fine s _ _⟩
  | .adcAD => exact ⟨_, rfl, aluReg_fine s _ _⟩
  | .adcAE => exact ⟨_, rfl, aluReg_fine s _ _⟩
  | .adcAH => exact ⟨_, rfl, aluReg_fine s _ _⟩
  | .adcAL => exact ⟨_, rfl, aluReg_fine s _ _⟩
  | .adcAIndHl => exact ⟨_, rfl, aluHl_fine s _⟩
  | .adcAA => exact ⟨_, rfl, aluReg_fine s _ _⟩
  | .subB => exact ⟨_, rfl, aluReg_fine s _ _⟩
  | .subC => exact ⟨_, rfl, aluReg_fine s _ _⟩
  | .subD => exact ⟨_, rfl, aluReg_fine s _ _⟩
  | .subE => exact ⟨_, rfl, aluReg_fine s _ _⟩
  | .subH => exact ⟨_, rfl, aluReg_fine s _ _⟩
  | .subL => exact ⟨_, rfl, aluReg_fine s _ _⟩
  | .subIndHl => exact ⟨_, rfl, aluHl_fine s _⟩
  | .subA => exact ⟨_, rfl, aluReg_fine s _ _⟩
  | .sbcAB => exact ⟨_, rfl, aluReg_fine s _ _⟩
  | .sbcAC => exact ⟨_, rfl, aluReg_fine s _ _⟩
  | .sbcAD => exact ⟨_, rfl, aluReg_fine s _ _⟩
  | .sbcAE => exact ⟨_, rfl, aluReg_fine s _ _⟩
  | .sbcAH => exact ⟨_, rfl, aluReg_fine s _ _⟩
  | .sbcAL => exact ⟨_, rfl, aluReg_fine s _ _⟩
  | .sbcAIndHl => exact ⟨_, rfl, aluHl_fine s _⟩
  | .sbcAA => exact ⟨_, rfl, aluReg_fine s _ _⟩
  | .andB => exact ⟨_, rfl, aluReg_fine s _ _⟩
  | .andC => exact ⟨_, rfl, aluReg_fine s _ _⟩
  | .andD => exact ⟨_, rfl, aluReg_fine s _ _⟩
  | .andE => exact ⟨_, rfl, aluReg_fine s _ _⟩
  | .andH => exact ⟨_, rfl, aluReg_fine s _ _⟩
  | .andL => exact ⟨_, rfl, aluReg_fine s _ _⟩
  | .andIndHl => exact ⟨_, rfl, aluHl_fine s _⟩
  | .andA => exact ⟨_, rfl, aluReg_fine s _ _⟩
  | .xorB => exact ⟨_, rfl, aluReg_fine s _ _⟩
  | .xorC => exact ⟨_, rfl, aluReg_fine s _ _⟩
  | .xorD => exact ⟨_, rfl, aluReg_fine s _ _⟩
  | .xorE => exact ⟨_, rfl, aluReg_fine s _ _⟩
  | .xorH => exact ⟨_, rfl, aluReg_fine s _ _⟩
  | .xorL => exact ⟨_, rfl, aluReg_fine s _ _⟩
  | .xorIndHl => exact ⟨_, rfl, aluHl_fine s _⟩
  | .xorA => exact ⟨_, rfl, aluReg_fine s _ _⟩
  | .orB => exact ⟨_, rfl, aluReg_fine s _ _⟩
  | .orC => exact ⟨_, rfl, aluReg_fine s _ _⟩
  | .orD => exact ⟨_, rfl, aluReg_fine s _ _⟩
  | .orE => exact ⟨_, rfl, aluReg_fine s _ _⟩
  | .orH => exact ⟨_, rfl, aluReg_fine s _ _⟩
  | .orL => exact ⟨_, rfl, aluReg_fine s _ _⟩
  | .orIndHl => exact ⟨_, rfl, aluHl_fine s _⟩
  | .orA => exact ⟨_, rfl, aluReg_fine s _ _⟩
  | .cpB => exact ⟨_, rfl, aluReg_fine s _ _⟩
  | .cpC => exact ⟨_, rfl, aluReg_fine s _ _⟩
  | .cpD => exact ⟨_, rfl, aluReg_fine s _ _⟩
  | .cpE => exact ⟨_, rfl, aluReg_fine s _ _⟩
  | .cpH => exact ⟨_, rfl, aluReg_fine s _ _⟩
  | .cpL => exact ⟨_, rfl, aluReg_fine s _ _⟩
  | .cpIndHl => exact ⟨_, rfl, aluHl_fine s _⟩
  | .cpA => exact ⟨_, rfl, aluReg_fine s _ _⟩
  | .retNz => exact ⟨_, rfl, returnIf_fine s _⟩
  | .popBc => exact ⟨_, rfl, popPair_fine s _⟩
  | .jpNzN16 nn => exact ⟨_, rfl, jumpIf_fine s _ _⟩
  | .jpN16 nn => exact ⟨_, rfl, jumpTo_fine s _⟩
  | .callNzN16 nn => exact ⟨_, rfl, callIf_fine s _ _⟩
  | .pushBc => exact ⟨_, rfl, pushPair_fine s _⟩
  | .addAN8 n => exact ⟨_, rfl, aluImm_fine s _ _⟩
  | .rst00 => exact ⟨_, rfl, restart_fine s _⟩
  | .retZ => exact ⟨_, rfl, returnIf_fine s _⟩
  | .ret => exact ⟨_, rfl, returnTo_fine s⟩
  | .jpZN16 nn => exact ⟨_, rfl, jumpIf_fine s _ _⟩
  | .prefixCb op2 => exact ⟨_, rfl, extendedOp_fine s _⟩
  | .callZN16 nn => exact ⟨_, rfl, callIf_fine s _ _⟩
  | .callN16 nn => exact ⟨_, rfl, callTo_fine s _⟩
  | .adcAN8 n => exact ⟨_, rfl, aluImm_fine s _ _⟩
  | .rst08 => exact ⟨_, rfl, restart_fine s _⟩
  | .retNc => exact ⟨_, rfl, returnIf_fine s _⟩
  | .popDe => exact ⟨_, rfl, popPair_fine s _⟩
  | .jpNcN16 nn => exact ⟨_, rfl, jumpIf_fine s _ _⟩
  | .undefinedD3 => exact ⟨_, rfl, undefinedOp_fine s _⟩
  | .callNcN16 nn => exact ⟨_, rfl, callIf_fine s _ _⟩
  | .pushDe => exact ⟨_, rfl, pushPair_fine s _⟩
  | .subN8 n => exact ⟨_, rfl, aluImm_fine s _ _⟩
  | .rst10 => exact ⟨_, rfl, restart_fine s _⟩
  | .retC => exact ⟨_, rfl, returnIf_fine s _⟩
  | .reti => exact ⟨_, rfl, returnFromInterrupt_fine s⟩
  | .jpCN16 nn => exact ⟨_, rfl, jumpIf_fine s _ _⟩
  | .undefinedDb => exact ⟨_, rfl, undefinedOp_fine s _⟩
  | .callCN16 nn => exact ⟨_, rfl, callIf_fine s _ _⟩
  | .undefinedDd => exact ⟨_, rfl, undefinedOp_fine s _⟩
  | .sbcAN8 n => exact ⟨_, rfl, aluImm_fine s _ _⟩
  | .rst18 => exact ⟨_, rfl, restart_fine s _⟩
  | .ldhIndN8A n => exact ⟨_, rfl, storeA_fine s _ _ _ (by unfold TicksOk; omega)⟩
  | .popHl => exact ⟨_, rfl, popPair_fine s _⟩
  | .ldhIndCA => exact ⟨_, rfl, storeA_fine s _ _ _ (by unfold TicksOk; omega)⟩
  | .undefinedE3 => exact ⟨_, rfl, undefinedOp_fine s _⟩
  | .undefinedE4 => exact ⟨_, rfl, undefinedOp_fine s _⟩
  | .pushHl => exact ⟨_, rfl, pushPair_fine s _⟩
  | .andN8 n => exact ⟨_, rfl, aluImm_fine s _ _⟩
  | .rst20 => exact ⟨_, rfl, restart_fine s _⟩
  | .addSpOff e => exact ⟨_, rfl, addSpOffset_fine s _⟩
  | .jpHl => exact ⟨_, rfl, jumpHl_fine s⟩
  | .ldIndN16A nn => exact ⟨_, rfl, storeA_fine s _ _ _ (by unfold TicksOk; omega)⟩
  | .undefinedEb => exact ⟨_, rfl, undefinedOp_fine s _⟩
  | .undefinedEc => exact ⟨_, rfl, undefinedOp_fine s _⟩
  | .undefinedEd => exact ⟨_, rfl, undefinedOp_fine s _⟩
  | .xorN8 n => exact ⟨_, rfl, aluImm_fine s _ _⟩
  | .rst28 => exact ⟨_, rfl, restart_fine s _⟩
  | .ldhAIndN8 n => exact ⟨_, rfl, loadA_fine s _ _ _ (by unfold TicksOk; omega)⟩
  | .popAf => exact ⟨_, rfl, popPair_fine s _⟩
  | .ldhAIndC => exact ⟨_, rfl, loadA_fine s _ _ _ (by unfold TicksOk; omega)⟩
  | .di => exact ⟨_, rfl, disableOp_fine s⟩
  | .undefinedF4 => exact ⟨_, rfl, undefinedOp_fine s _⟩
  | .pushAf => exact ⟨_, rfl, pushPair_fine s _⟩
  | .orN8 n => exact ⟨_, rfl, aluImm_fine s _ _⟩
  | .rst30 => exact ⟨_, rfl, restart_fine s _⟩
  | .ldHlSpOff e => exact ⟨_, rfl, loadHlSpOff_fine s _⟩
  | .ldSpHl => exact ⟨_, rfl, loadSpHl_fine s⟩
  | .ldAIndN16 nn => exact ⟨_, rfl, loadA_fine s _ _ _ (by unfold TicksOk; omega)⟩
  | .ei => exact ⟨_, rfl, enableOp_fine s⟩
  | .undefinedFc => exact ⟨_, rfl, undefinedOp_fine s _⟩
  | .undefinedFd => exact ⟨_, rfl, undefinedOp_fine s _⟩
  | .cpN8 n => exact ⟨_, rfl, aluImm_fine s _ _⟩
  | .rst38 => exact ⟨_, rfl, restart_fine s _⟩
  | .rlcB => exact ⟨_, rfl, rotReg_fine s _ _⟩
  | .rlcC => exact ⟨_, rfl, rotReg_fine s _ _⟩
  | .rlcD => exact ⟨_, rfl, rotReg_fine s _ _⟩
  | .rlcE => exact ⟨_, rfl, rotReg_fine s _ _⟩
  | .rlcH => exact ⟨_, rfl, rotReg_fine s _ _⟩
  | .rlcL => exact ⟨_, rfl, rotReg_fine s _ _⟩
  | .rlcIndHl => exact ⟨_, rfl, rotHl_fine s _⟩
  | .rlcA => exact ⟨_, rfl, rotReg_fine s _ _⟩
  | .rrcB => exact ⟨_, rfl, rotReg_fine s _ _⟩
  | .rrcC => exact ⟨_, rfl, rotReg_fine s _ _⟩
  | .rrcD => exact ⟨_, rfl, rotReg_fine s _ _⟩
  | .rrcE => exact ⟨_, rfl, rotReg_fine s _ _⟩
  | .rrcH => exact ⟨_, rfl, rotReg_fine s _ _⟩
  | .rrcL => exact ⟨_, rfl, rotReg_fine s _ _⟩
  | .rrcIndHl => exact ⟨_, rfl, rotHl_fine s _⟩
  | .rrcA => exact ⟨_, rfl, rotReg_fine s _ _⟩
  | .rlB => exact ⟨_, rfl, rotReg_fine s _ _⟩
  | .rlC => exact ⟨_, rfl, rotReg_fine s _ _⟩
  | .rlD => exact ⟨_, rfl, rotReg_fine s _ _⟩
  | .rlE => exact ⟨_, rfl, rotReg_fine s _ _⟩
  | .rlH => exact ⟨_, rfl, rotReg_fine s _ _⟩
  | .rlL => exact ⟨_, rfl, rotReg_fine s _ _⟩
  | .rlIndHl => exact ⟨_, rfl, rotHl_fine s _⟩
  | .rlA => exact ⟨_, rfl, rotReg_fine s _ _⟩
  | .rrB => exact ⟨_, rfl, rotReg_fine s _ _⟩
  | .rrC => exact ⟨_, rfl, rotReg_fine s _ _⟩
  | .rrD => exact ⟨_, rfl, rotReg_fine s _ _⟩
  | .rrE => exact ⟨_, rfl, rotReg_fine s _ _⟩
  | .rrH => exact ⟨_, rfl, rotReg_fine s _ _⟩
  | .rrL => exact ⟨_, rfl, rotReg_fine s _ _⟩
  | .rrIndHl => exact ⟨_, rfl, rotHl_fine s _⟩
  | .rrA => exact ⟨_, rfl, rotReg_fine s _ _⟩
  | .slaB => exact ⟨_, rfl, rotReg_fine s _ _⟩
  | .slaC => exact ⟨_, rfl, rotReg_fine s _ _⟩
  | .slaD => exact ⟨_, rfl, rotReg_fine s _ _⟩
  | .slaE => exact ⟨_, rfl, rotReg_fine s _ _⟩
  | .slaH => exact ⟨_, rfl, rotReg_fine s _ _⟩
  | .slaL => exact ⟨_, rfl, rotReg_fine s _ _⟩
  | .slaIndHl => exact ⟨_, rfl, rotHl_fine s _⟩
  | .slaA => exact ⟨_, rfl, rotReg_fine s _ _⟩
  | .sraB => exact ⟨_, rfl, rotReg_fine s _ _⟩
  | .sraC => exact ⟨_, rfl, rotReg_fine s _ _⟩
  | .sraD => exact ⟨_, rfl, rotReg_fine s _ _⟩
  | .sraE => exact ⟨_, rfl, rotReg_fine s _ _⟩
  | .sraH => exact ⟨_, rfl, rotReg_fine s _ _⟩
  | .sraL => exact ⟨_, rfl, rotReg_fine s _ _⟩
  | .sraIndHl => exact ⟨_, rfl, rotHl_fine s _⟩
  | .sraA => exact ⟨_, rfl, rotReg_fine s _ _⟩
  | .swapB => exact ⟨_, rfl, rotReg_fine s _ _⟩
  | .swapC => exact ⟨_, rfl, rotReg_fine s _ _⟩
  | .swapD => exact ⟨_, rfl, rotReg_fine s _ _⟩
  | .swapE => exact ⟨_, rfl, rotReg_fine s _ _⟩
  | .swapH => exact ⟨_, rfl, rotReg_fine s _ _⟩
  | .swapL => exact ⟨_, rfl, rotReg_fine s _ _⟩
  | .swapIndHl => exact ⟨_, rfl, rotHl_fine s _⟩
  | .swapA => exact ⟨_, rfl, rotReg_fine s _ _⟩
  | .srlB => exact ⟨_, rfl, rotReg_fine s _ _⟩
  | .srlC => exact ⟨_, rfl, rotReg_fine s _ _⟩
  | .srlD => exact ⟨_, rfl, rotReg_fine s _ _⟩
  | .srlE => exact ⟨_, rfl, rotReg_fine s _ _⟩
  | .srlH => exact ⟨_, rfl, rotReg_fine s _ _⟩
  | .srlL => exact ⟨_, rfl, rotReg_fine s _ _⟩
  | .srlIndHl => exact ⟨_, rfl, rotHl_fine s _⟩
  | .srlA => exact ⟨_, rfl, rotReg_fine s _ _⟩
  | .bit0B => exact ⟨_, rfl, bitTestReg_fine s _ _⟩
  | .bit0C => exact ⟨_, rfl, bitTestReg_fine s _ _⟩
  | .bit0D => exact ⟨_, rfl, bitTestReg_fine s _ _⟩
  | .bit0E => exact ⟨_, rfl, bitTestReg_fine s _ _⟩
  | .bit0H => exact ⟨_, rfl, bitTestReg_fine s _ _⟩
  | .bit0L => exact ⟨_, rfl, bitTestReg_fine s _ _⟩
  | .bit0IndHl => exact ⟨_, rfl, bitTestHl_fine s _⟩
  | .bit0A => exact ⟨_, rfl, bitTestReg_fine s _ _⟩
  | .bit1B => exact ⟨_, rfl, bitTestReg_fine s _ _⟩
  | .bit1C => exact ⟨_, rfl, bitTestReg_fine s _ _⟩
  | .bit1D => exact ⟨_, rfl, bitTestReg_fine s _ _⟩
  | .bit1E => exact ⟨_, rfl, bitTestReg_fine s _ _⟩
  | .bit1H => exact ⟨_, rfl, bitTestReg_fine s _ _⟩
  | .bit1L => exact ⟨_, rfl, bitTestReg_fine s _ _⟩
  | .bit1IndHl => exact ⟨_, rfl, bitTestHl_fine s _⟩
  | .bit1A => exact ⟨_, rfl, bitTestReg_fine s _ _⟩
  | .bit2B => exact ⟨_, rfl, bitTestReg_fine s _ _⟩
  | .bit2C => exact ⟨_, rfl, bitTestReg_fine s _ _⟩
  | .bit2D => exact ⟨_, rfl, bitTestReg_fine s _ _⟩
  | .bit2E => exact ⟨_, rfl, bitTestReg_fine s _ _⟩
  | .bit2H => exact ⟨_, rfl, bitTestReg_fine s _ _⟩
  | .bit2L => exact ⟨_, rfl, bitTestReg_fine s _ _⟩
  | .bit2IndHl => exact ⟨_, rfl, bitTestHl_fine s _⟩
  | .bit2A => exact ⟨_, rfl, bitTestReg_fine s _ _⟩
  | .bit3B => exact ⟨_, rfl, bitTestReg_fine s _ _⟩
  | .bit3C => exact ⟨_, rfl, bitTestReg_fine s _ _⟩
  | .bit3D => exact ⟨_, rfl, bitTestReg_fine s _ _⟩
  | .bit3E => exact ⟨_, rfl, bitTestReg_fine s _ _⟩
  | .bit3H => exact ⟨_, rfl, bitTestReg_fine s _ _⟩
  | .bit3L => exact ⟨_, rfl, bitTestReg_fine s _ _⟩
  | .bit3IndHl => exact ⟨_, rfl, bitTestHl_fine s _⟩
  | .bit3A => exact ⟨_, rfl, bitTestReg_fine s _ _⟩
  | .bit4B => exact ⟨_, rfl, bitTestReg_fine s _ _⟩
  | .bit4C => exact ⟨_, rfl, bitTestReg_fine s _ _⟩
  | .bit4D => exact ⟨_, rfl, bitTestReg_fine s _ _⟩
  | .bit4E => exact ⟨_, rfl, bitTestReg_fine s _ _⟩
  | .bit4H => exact ⟨_, rfl, bitTestReg_fine s _ _⟩
  | .bit4L => exact ⟨_, rfl, bitTestReg_fine s _ _⟩
  | .bit4IndHl => exact ⟨_, rfl, bitTestHl_fine s _⟩
  | .bit4A => exact ⟨_, rfl, bitTestReg_fine s _ _⟩
  | .bit5B => exact ⟨_, rfl, bitTestReg_fine s _ _⟩
  | .bit5C => exact ⟨_, rfl, bitTestReg_fine s _ _⟩
  | .bit5D => exact ⟨_, rfl, bitTestReg_fine s _ _⟩
  | .bit5E => exact ⟨_, rfl, bitTestReg_fine s _ _⟩
  | .bit5H => exact ⟨_, rfl, bitTestReg_fine s _ _⟩
  | .bit5L => exact ⟨_, rfl, bitTestReg_fine s _ _⟩
  | .bit5IndHl => exact ⟨_, rfl, bitTestHl_fine s _⟩
  | .bit5A => exact ⟨_, rfl, bitTestReg_fine s _ _⟩
  | .bit6B => exact ⟨_, rfl, bitTestReg_fine s _ _⟩
  | .bit6C => exact ⟨_, rfl, bitTestReg_fine s _ _⟩
  | .bit6D => exact ⟨_, rfl, bitTestReg_fine s _ _⟩
  | .bit6E => exact ⟨_, rfl, bitTestReg_fine s _ _⟩
  | .bit6H => exact ⟨_, rfl, bitTestReg_fine s _ _⟩
  | .bit6L => exact ⟨_, rfl, bitTestReg_fine s _ _⟩
  | .bit6IndHl => exact ⟨_, rfl, bitTestHl_fine s _⟩
  | .bit6A => exact ⟨_, rfl, bitTestReg_fine s _ _⟩
  | .bit7B => exact ⟨_, rfl, bitTestReg_fine s _ _⟩
  | .bit7C => exact ⟨_, rfl, bitTestReg_fine s _ _⟩
  | .bit7D => exact ⟨_, rfl, bitTestReg_fine s _ _⟩
  | .bit7E => exact ⟨_, rfl, bitTestReg_fine s _ _⟩
  | .bit7H => exact ⟨_, rfl, bitTestReg_fine s _ _⟩
  | .bit7L => exact ⟨_, rfl, bitTestReg_fine s _ _⟩
  | .bit7IndHl => exact ⟨_, rfl, bitTestHl_fine s _⟩
  | .bit7A => exact ⟨_, rfl, bitTestReg_fine s _ _⟩
  | .res0B => exact ⟨_, rfl, bitResetReg_fine s _ _⟩
  | .res0C => exact ⟨_, rfl, bitResetReg_fine s _ _⟩
  | .res0D => exact ⟨_, rfl, bitResetReg_fine s _ _⟩
  | .res0E => exact ⟨_, rfl, bitResetReg_fine s _ _⟩
  | .res0H => exact ⟨_, rfl, bitResetReg_fine s _ _⟩
  | .res0L => exact ⟨_, rfl, bitResetReg_fine s _ _⟩
  | .res0IndHl => exact ⟨_, rfl, bitResetHl_fine s _⟩
  | .res0A => exact ⟨_, rfl, bitResetReg_fine s _ _⟩
  | .res1B => exact ⟨_, rfl, bitResetReg_fine s _ _⟩
  | .res1C => exact ⟨_, rfl, bitResetReg_fine s _ _⟩
  | .res1D => exact ⟨_, rfl, bitResetReg_fine s _ _⟩
  | .res1E => exact ⟨_, rfl, bitResetReg_fine s _ _⟩
  | .res1H => exact ⟨_, rfl, bitResetReg_fine s _ _⟩
  | .res1L => exact ⟨_, rfl, bitResetReg_fine s _ _⟩
  | .res1IndHl => exact ⟨_, rfl, bitResetHl_fine s _⟩
  | .res1A => exact ⟨_, rfl, bitResetReg_fine s _ _⟩
  | .res2B => exact ⟨_, rfl, bitResetReg_fine s _ _⟩
  | .res2C => exact ⟨_, rfl, bitResetReg_fine s _ _⟩
  | .res2D => exact ⟨_, rfl, bitResetReg_fine s _ _⟩
  | .res2E => exact ⟨_, rfl, bitResetReg_fine s _ _⟩
  | .res2H => exact ⟨_, rfl, bitResetReg_fine s _ _⟩
  | .res2L => exact ⟨_, rfl, bitResetReg_fine s _ _⟩
  | .res2IndHl => exact ⟨_, rfl, bitResetHl_fine s _⟩
  | .res2A => exact ⟨_, rfl, bitResetReg_fine s _ _⟩
  | .res3B => exact ⟨_, rfl, bitResetReg_fine s _ _⟩
  | .res3C => exact ⟨_, rfl, bitResetReg_fine s _ _⟩
  | .res3D => exact ⟨_, rfl, bitResetReg_fine s _ _⟩
  | .res3E => exact ⟨_, rfl, bitResetReg_fine s _ _⟩
  | .res3H => exact ⟨_, rfl, bitResetReg_fine s _ _⟩
  | .res3L => exact ⟨_, rfl, bitResetReg_fine s _ _⟩
  | .res3IndHl => exact ⟨_, rfl, bitResetHl_fine s _⟩
  | .res3A => exact ⟨_, rfl, bitResetReg_fine s _ _⟩
  | .res4B => exact ⟨_, rfl, bitResetReg_fine s _ _⟩
  | .res4C => exact ⟨_, rfl, bitResetReg_fine s _ _⟩
  | .res4D => exact ⟨_, rfl, bitResetReg_fine s _ _⟩
  | .res4E => exact ⟨_, rfl, bitResetReg_fine s _ _⟩
  | .res4H => exact ⟨_, rfl, bitResetReg_fine s _ _⟩
  | .res4L => exact ⟨_, rfl, bitResetReg_fine s _ _⟩
  | .res4IndHl => exact ⟨_, rfl, bitResetHl_fine s _⟩
  | .res4A => exact ⟨_, rfl, bitResetReg_fine s _ _⟩
  | .res5B => exact ⟨_, rfl, bitResetReg_fine s _ _⟩
  | .res5C => exact ⟨_, rfl, bitResetReg_fine s _ _⟩
  | .res5D => exact ⟨_, rfl, bitResetReg_fine s _ _⟩
  | .res5E => exact ⟨_, rfl, bitResetReg_fine s _ _⟩
  | .res5H => exact ⟨_, rfl, bitResetReg_fine s _ _⟩
  | .res5L => exact ⟨_, rfl, bitResetReg_fine s _ _⟩
  | .res5IndHl => exact ⟨_, rfl, bitResetHl_fine s _⟩
  | .res5A => exact ⟨_, rfl, bitResetReg_fine s _ _⟩
  | .res6B => exact ⟨_, rfl, bitResetReg_fine s _ _⟩
  | .res6C => exact ⟨_, rfl, bitResetReg_fine s _ _⟩
  | .res6D => exact ⟨_, rfl, bitResetReg_fine s _ _⟩
  | .res6E => exact ⟨_, rfl, bitResetReg_fine s _ _⟩
  | .res6H => exact ⟨_, rfl, bitResetReg_fine s _ _⟩
  | .res6L => exact ⟨_, rfl, bitResetReg_fine s _ _⟩
  | .res6IndHl => exact ⟨_, rfl, bitResetHl_fine s _⟩
  | .res6A => exact ⟨_, rfl, bitResetReg_fine s _ _⟩
  | .res7B => exact ⟨_, rfl, bitResetReg_fine s _ _⟩
  | .res7C => exact ⟨_, rfl, bitResetReg_fine s _ _⟩
  | .res7D => exact ⟨_, rfl, bitResetReg_fine s _ _⟩
  | .res7E => exact ⟨_, rfl, bitResetReg_fine s _ _⟩
  | .res7H => exact ⟨_, rfl, bitResetReg_fine s _ _⟩
  | .res7L => exact ⟨_, rfl, bitResetReg_fine s _ _⟩
  | .res7IndHl => exact ⟨_, rfl, bitResetHl_fine s _⟩
  | .res7A => exact ⟨_, rfl, bitResetReg_fine s _ _⟩
  | .set0B => exact ⟨_, rfl, bitSetReg_fine s _ _⟩
  | .set0C => exact ⟨_, rfl, bitSetReg_fine s _ _⟩
  | .set0D => exact ⟨_, rfl, bitSetReg_fine s _ _⟩
  | .set0E => exact ⟨_, rfl, bitSetReg_fine s _ _⟩
  | .set0H => exact ⟨_, rfl, bitSetReg_fine s _ _⟩
  | .set0L => exact ⟨_, rfl, bitSetReg_fine s _ _⟩
  | .set0IndHl => exact ⟨_, rfl, bitSetHl_fine s _⟩
  | .set0A => exact ⟨_, rfl, bitSetReg_fine s _ _⟩
  | .set1B => exact ⟨_, rfl, bitSetReg_fine s _ _⟩
  | .set1C => exact ⟨_, rfl, bitSetReg_fine s _ _⟩
  | .set1D => exact ⟨_, rfl, bitSetReg_fine s _ _⟩
  | .set1E => exact ⟨_, rfl, bitSetReg_fine s _ _⟩
  | .set1H => exact ⟨_, rfl, bitSetReg_fine s _ _⟩
  | .set1L => exact ⟨_, rfl, bitSetReg_fine s _ _⟩
  | .set1IndHl => exact ⟨_, rfl, bitSetHl_fine s _⟩
  | .set1A => exact ⟨_, rfl, bitSetReg_fine s _ _⟩
  | .set2B => exact ⟨_, rfl, bitSetReg_fine s _ _⟩
  | .set2C => exact ⟨_, rfl, bitSetReg_fine s _ _⟩
  | .set2D => exact ⟨_, rfl, bitSetReg_fine s _ _⟩
  | .set2E => exact ⟨_, rfl, bitSetReg_fine s _ _⟩
  | .set2H => exact ⟨_, rfl, bitSetReg_fine s _ _⟩
  | .set2L => exact ⟨_, rfl, bitSetReg_fine s _ _⟩
  | .set2IndHl => exact ⟨_, rfl, bitSetHl_fine s _⟩
  | .set2A => exact ⟨_, rfl, bitSetReg_fine s _ _⟩
  | .set3B => exact ⟨_, rfl, bitSetReg_fine s _ _⟩
  | .set3C => exact ⟨_, rfl, bitSetReg_fine s _ _⟩
  | .set3D => exact ⟨_, rfl, bitSetReg_fine s _ _⟩
  | .set3E => exact ⟨_, rfl, bitSetReg_fine s _ _⟩
  | .set3H => exact ⟨_, rfl, bitSetReg_fine s _ _⟩
  | .set3L => exact ⟨_, rfl, bitSetReg_fine s _ _⟩
  | .set3IndHl => exact ⟨_, rfl, bitSetHl_fine s _⟩
  | .set3A => exact ⟨_, rfl, bitSetReg_fine s _ _⟩
  | .set4B => exact ⟨_, rfl, bitSetReg_fine s _ _⟩
  | .set4C => exact ⟨_, rfl, bitSetReg_fine s _ _⟩
  | .set4D => exact ⟨_, rfl, bitSetReg_fine s _ _⟩
  | .set4E => exact ⟨_, rfl, bitSetReg_fine s _ _⟩
  | .set4H => exact ⟨_, rfl, bitSetReg_fine s _ _⟩
  | .set4L => exact ⟨_, rfl, bitSetReg_fine s _ _⟩
  | .set4IndHl => exact ⟨_, rfl, bitSetHl_fine s _⟩
  | .set4A => exact ⟨_, rfl, bitSetReg_fine s _ _⟩
  | .set5B => exact ⟨_, rfl, bitSetReg_fine s _ _⟩
  | .set5C => exact ⟨_, rfl, bitSetReg_fine s _ _⟩
  | .set5D => exact ⟨_, rfl, bitSetReg_fine s _ _⟩
  | .set5E => exact ⟨_, rfl, bitSetReg_fine s _ _⟩
  | .set5H => exact ⟨_, rfl, bitSetReg_fine s _ _⟩
  | .set5L => exact ⟨_, rfl, bitSetReg_fine s _ _⟩
  | .set5IndHl => exact ⟨_, rfl, bitSetHl_fine s _⟩
  | .set5A => exact ⟨_, rfl, bitSetReg_fine s _ _⟩
  | .set6B => exact ⟨_, rfl, bitSetReg_fine s _ _⟩
  | .set6C => exact ⟨_, rfl, bitSetReg_fine s _ _⟩
  | .set6D => exact ⟨_, rfl, bitSetReg_fine s _ _⟩
  | .set6E => exact ⟨_, rfl, bitSetReg_fine s _ _⟩
  | .set6H => exact ⟨_, rfl, bitSetReg_fine s _ _⟩
  | .set6L => exact ⟨_, rfl, bitSetReg_fine s _ _⟩
  | .set6IndHl => exact ⟨_, rfl, bitSetHl_fine s _⟩
  | .set6A => exact ⟨_, rfl, bitSetReg_fine s _ _⟩
  | .set7B => exact ⟨_, rfl, bitSetReg_fine s _ _⟩
  | .set7C => exact ⟨_, rfl, bitSetReg_fine s _ _⟩
  | .set7D => exact ⟨_, rfl, bitSetReg_fine s _ _⟩
  | .set7E => exact ⟨_, rfl, bitSetReg_fine s _ _⟩
  | .set7H => exact ⟨_, rfl, bitSetReg_fine s _ _⟩
  | .set7L => exact ⟨_, rfl, bitSetReg_fine s _ _⟩
  | .set7IndHl => exact ⟨_, rfl, bitSetHl_fine s _⟩
  | .set7A => exact ⟨_, rfl, bitSetReg_fine s _ _⟩

end Sys2Proof.Machine
end

