-- ==== Sys2Proof/Laws/Stack.lean ====
section
/-! SUPPORT. The stack operations in one equation each (spec/00_scope.md R13; 10_state.md R33): the two
accesses, and SP. -/

namespace Sys2Proof.Machine

theorem pushByte_eq (s : State) (v : Byte) : pushByte s v =
    { busWrite s (s.cpu.sp - 1#16) v with cpu := { s.cpu with sp := s.cpu.sp - 1#16 } } :=
  busWrite_setCpu s _ _ _

theorem popByte_eq (s : State) : popByte s =
    (busValue s s.cpu.sp, { busReadEffect s s.cpu.sp with cpu := { s.cpu with sp := s.cpu.sp + 1#16 } }) := by
  simp only [popByte, busRead, State.setSp, busReadEffect_cpu]

theorem sp_sub_two (sp : Word) : sp - 1#16 - 1#16 = sp - 2#16 := by bv_omega

theorem sp_add_two (sp : Word) : sp + 1#16 + 1#16 = sp + 2#16 := by bv_omega

/-- A push of a word: the high byte one below SP, then the low byte two below. -/
theorem push16_eq (s : State) (v : Word) : push16 s v =
    { busWrite (busWrite s (s.cpu.sp - 1#16) (hiByte v)) (s.cpu.sp - 2#16) (loByte v) with
      cpu := { s.cpu with sp := s.cpu.sp - 2#16 } } := by
  rw [push16, pushByte_eq, pushByte_eq]
  show ({ busWrite { busWrite s (s.cpu.sp - 1#16) (hiByte v) with cpu := { s.cpu with sp := s.cpu.sp - 1#16 } }
      (s.cpu.sp - 1#16 - 1#16) (loByte v) with
      cpu := { s.cpu with sp := s.cpu.sp - 1#16 - 1#16 } } : State) = _
  rw [busWrite_setCpu, sp_sub_two]

/-- A pop of a word: the low byte from SP, then the high byte above it. -/
theorem pop16_eq (s : State) : pop16 s =
    (joinBytes (busValue (busReadEffect s s.cpu.sp) (s.cpu.sp + 1#16)) (busValue s s.cpu.sp),
     { busReadEffect (busReadEffect s s.cpu.sp) (s.cpu.sp + 1#16) with cpu := { s.cpu with sp := s.cpu.sp + 2#16 } }) := by
  refine Prod.ext rfl ?_
  show (popByte (popByte s).2).2 = _
  rw [popByte_eq s, popByte_eq]
  have h := busReadEffect_setCpu (busReadEffect s s.cpu.sp) { s.cpu with sp := s.cpu.sp + 1#16 } (s.cpu.sp + 1#16)
  have e := congrArg (fun u : State => ({ u with cpu := { s.cpu with sp := s.cpu.sp + 1#16 + 1#16 } } : State)) h
  rw [← sp_add_two]
  exact e

end Sys2Proof.Machine
end

