-- ==== Sys2Proof/Tests/Slice0.lean ====
section
/-! SUPPORT. Tests: the check of well-formedness, every row's decoding from words written out from the `encoding` of
spec/opcode_table.json, single steps with the numbers of spec/95_test_vectors.md, and for every statement with hypotheses a
state and operands that meet them. -/

set_option maxRecDepth 20000

namespace Sys2Proof.Tests

open Sys2Proof.Machine Sys2Proof.Rules

/-! ## The check of well-formedness -/

/-- The bare prefix is no instruction by itself (40 R186). -/
theorem test_prefix_row_is_ill_formed : (Instr.prefixCb 0x37#8).wellFormed = false := by decide

/-- The instruction it begins is one. -/
theorem test_extended_row_is_well_formed : Instr.swapA.wellFormed = true := by decide

/-! ## Decoding, row by row

The operand byte of the one-byte forms is 0x9C, the operand word 0xC234, its low byte first. -/

theorem test_decode_x0_0 :
    [[0b00000000#8], [0b00000001#8, 0x34#8, 0xC2#8], [0b00000010#8], [0b00000011#8], [0b00000100#8],
      [0b00000101#8], [0b00000110#8, 0x9C#8], [0b00000111#8], [0b00001000#8, 0x34#8, 0xC2#8],
      [0b00001001#8], [0b00001010#8], [0b00001011#8], [0b00001100#8], [0b00001101#8],
      [0b00001110#8, 0x9C#8], [0b00001111#8]].map decode =
    [.ok .nop, .ok (.ldBcN16 0xC234#16), .ok .ldIndBcA, .ok .incBc, .ok .incB, .ok .decB,
      .ok (.ldBN8 0x9C#8), .ok .rlca, .ok (.ldIndN16Sp 0xC234#16), .ok .addHlBc, .ok .ldAIndBc,
      .ok .decBc, .ok .incC, .ok .decC, .ok (.ldCN8 0x9C#8), .ok .rrca] := rfl

theorem test_decode_x0_1 :
    [[0b00010000#8, 0x00#8], [0b00010001#8, 0x34#8, 0xC2#8], [0b00010010#8], [0b00010011#8],
      [0b00010100#8], [0b00010101#8], [0b00010110#8, 0x9C#8], [0b00010111#8], [0b00011000#8, 0x9C#8],
      [0b00011001#8], [0b00011010#8], [0b00011011#8], [0b00011100#8], [0b00011101#8],
      [0b00011110#8, 0x9C#8], [0b00011111#8]].map decode =
    [.ok .stop, .ok (.ldDeN16 0xC234#16), .ok .ldIndDeA, .ok .incDe, .ok .incD, .ok .decD,
      .ok (.ldDN8 0x9C#8), .ok .rla, .ok (.jrOff 0x9C#8), .ok .addHlDe, .ok .ldAIndDe, .ok .decDe,
      .ok .incE, .ok .decE, .ok (.ldEN8 0x9C#8), .ok .rra] := rfl

theorem test_decode_x0_2 :
    [[0b00100000#8, 0x9C#8], [0b00100001#8, 0x34#8, 0xC2#8], [0b00100010#8], [0b00100011#8],
      [0b00100100#8], [0b00100101#8], [0b00100110#8, 0x9C#8], [0b00100111#8], [0b00101000#8, 0x9C#8],
      [0b00101001#8], [0b00101010#8], [0b00101011#8], [0b00101100#8], [0b00101101#8],
      [0b00101110#8, 0x9C#8], [0b00101111#8]].map decode =
    [.ok (.jrNzOff 0x9C#8), .ok (.ldHlN16 0xC234#16), .ok .ldIndHlIncA, .ok .incHl, .ok .incH,
      .ok .decH, .ok (.ldHN8 0x9C#8), .ok .daa, .ok (.jrZOff 0x9C#8), .ok .addHlHl, .ok .ldAIndHlInc,
      .ok .decHl, .ok .incL, .ok .decL, .ok (.ldLN8 0x9C#8), .ok .cpl] := rfl

theorem test_decode_x0_3 :
    [[0b00110000#8, 0x9C#8], [0b00110001#8, 0x34#8, 0xC2#8], [0b00110010#8], [0b00110011#8],
      [0b00110100#8], [0b00110101#8], [0b00110110#8, 0x9C#8], [0b00110111#8], [0b00111000#8, 0x9C#8],
      [0b00111001#8], [0b00111010#8], [0b00111011#8], [0b00111100#8], [0b00111101#8],
      [0b00111110#8, 0x9C#8], [0b00111111#8]].map decode =
    [.ok (.jrNcOff 0x9C#8), .ok (.ldSpN16 0xC234#16), .ok .ldIndHlDecA, .ok .incSp, .ok .incIndHl,
      .ok .decIndHl, .ok (.ldIndHlN8 0x9C#8), .ok .scf, .ok (.jrCOff 0x9C#8), .ok .addHlSp,
      .ok .ldAIndHlDec, .ok .decSp, .ok .incA, .ok .decA, .ok (.ldAN8 0x9C#8), .ok .ccf] := rfl

theorem test_decode_x1_0 :
    [[0b01000000#8], [0b01000001#8], [0b01000010#8], [0b01000011#8], [0b01000100#8], [0b01000101#8],
      [0b01000110#8], [0b01000111#8], [0b01001000#8], [0b01001001#8], [0b01001010#8], [0b01001011#8],
      [0b01001100#8], [0b01001101#8], [0b01001110#8], [0b01001111#8]].map decode =
    [.ok .ldBB, .ok .ldBC, .ok .ldBD, .ok .ldBE, .ok .ldBH, .ok .ldBL, .ok .ldBIndHl, .ok .ldBA,
      .ok .ldCB, .ok .ldCC, .ok .ldCD, .ok .ldCE, .ok .ldCH, .ok .ldCL, .ok .ldCIndHl, .ok .ldCA] := rfl

theorem test_decode_x1_1 :
    [[0b01010000#8], [0b01010001#8], [0b01010010#8], [0b01010011#8], [0b01010100#8], [0b01010101#8],
      [0b01010110#8], [0b01010111#8], [0b01011000#8], [0b01011001#8], [0b01011010#8], [0b01011011#8],
      [0b01011100#8], [0b01011101#8], [0b01011110#8], [0b01011111#8]].map decode =
    [.ok .ldDB, .ok .ldDC, .ok .ldDD, .ok .ldDE, .ok .ldDH, .ok .ldDL, .ok .ldDIndHl, .ok .ldDA,
      .ok .ldEB, .ok .ldEC, .ok .ldED, .ok .ldEE, .ok .ldEH, .ok .ldEL, .ok .ldEIndHl, .ok .ldEA] := rfl

theorem test_decode_x1_2 :
    [[0b01100000#8], [0b01100001#8], [0b01100010#8], [0b01100011#8], [0b01100100#8], [0b01100101#8],
      [0b01100110#8], [0b01100111#8], [0b01101000#8], [0b01101001#8], [0b01101010#8], [0b01101011#8],
      [0b01101100#8], [0b01101101#8], [0b01101110#8], [0b01101111#8]].map decode =
    [.ok .ldHB, .ok .ldHC, .ok .ldHD, .ok .ldHE, .ok .ldHH, .ok .ldHL, .ok .ldHIndHl, .ok .ldHA,
      .ok .ldLB, .ok .ldLC, .ok .ldLD, .ok .ldLE, .ok .ldLH, .ok .ldLL, .ok .ldLIndHl, .ok .ldLA] := rfl

theorem test_decode_x1_3 :
    [[0b01110000#8], [0b01110001#8], [0b01110010#8], [0b01110011#8], [0b01110100#8], [0b01110101#8],
      [0b01110110#8], [0b01110111#8], [0b01111000#8], [0b01111001#8], [0b01111010#8], [0b01111011#8],
      [0b01111100#8], [0b01111101#8], [0b01111110#8], [0b01111111#8]].map decode =
    [.ok .ldIndHlB, .ok .ldIndHlC, .ok .ldIndHlD, .ok .ldIndHlE, .ok .ldIndHlH, .ok .ldIndHlL,
      .ok .halt, .ok .ldIndHlA, .ok .ldAB, .ok .ldAC, .ok .ldAD, .ok .ldAE, .ok .ldAH, .ok .ldAL,
      .ok .ldAIndHl, .ok .ldAA] := rfl

theorem test_decode_x2_0 :
    [[0b10000000#8], [0b10000001#8], [0b10000010#8], [0b10000011#8], [0b10000100#8], [0b10000101#8],
      [0b10000110#8], [0b10000111#8], [0b10001000#8], [0b10001001#8], [0b10001010#8], [0b10001011#8],
      [0b10001100#8], [0b10001101#8], [0b10001110#8], [0b10001111#8]].map decode =
    [.ok .addAB, .ok .addAC, .ok .addAD, .ok .addAE, .ok .addAH, .ok .addAL, .ok .addAIndHl, .ok .addAA,
      .ok .adcAB, .ok .adcAC, .ok .adcAD, .ok .adcAE, .ok .adcAH, .ok .adcAL, .ok .adcAIndHl, .ok .adcAA] := rfl

theorem test_decode_x2_1 :
    [[0b10010000#8], [0b10010001#8], [0b10010010#8], [0b10010011#8], [0b10010100#8], [0b10010101#8],
      [0b10010110#8], [0b10010111#8], [0b10011000#8], [0b10011001#8], [0b10011010#8], [0b10011011#8],
      [0b10011100#8], [0b10011101#8], [0b10011110#8], [0b10011111#8]].map decode =
    [.ok .subB, .ok .subC, .ok .subD, .ok .subE, .ok .subH, .ok .subL, .ok .subIndHl, .ok .subA,
      .ok .sbcAB, .ok .sbcAC, .ok .sbcAD, .ok .sbcAE, .ok .sbcAH, .ok .sbcAL, .ok .sbcAIndHl, .ok .sbcAA] := rfl

theorem test_decode_x2_2 :
    [[0b10100000#8], [0b10100001#8], [0b10100010#8], [0b10100011#8], [0b10100100#8], [0b10100101#8],
      [0b10100110#8], [0b10100111#8], [0b10101000#8], [0b10101001#8], [0b10101010#8], [0b10101011#8],
      [0b10101100#8], [0b10101101#8], [0b10101110#8], [0b10101111#8]].map decode =
    [.ok .andB, .ok .andC, .ok .andD, .ok .andE, .ok .andH, .ok .andL, .ok .andIndHl, .ok .andA,
      .ok .xorB, .ok .xorC, .ok .xorD, .ok .xorE, .ok .xorH, .ok .xorL, .ok .xorIndHl, .ok .xorA] := rfl

theorem test_decode_x2_3 :
    [[0b10110000#8], [0b10110001#8], [0b10110010#8], [0b10110011#8], [0b10110100#8], [0b10110101#8],
      [0b10110110#8], [0b10110111#8], [0b10111000#8], [0b10111001#8], [0b10111010#8], [0b10111011#8],
      [0b10111100#8], [0b10111101#8], [0b10111110#8], [0b10111111#8]].map decode =
    [.ok .orB, .ok .orC, .ok .orD, .ok .orE, .ok .orH, .ok .orL, .ok .orIndHl, .ok .orA, .ok .cpB,
      .ok .cpC, .ok .cpD, .ok .cpE, .ok .cpH, .ok .cpL, .ok .cpIndHl, .ok .cpA] := rfl

/-- The prefix with the second byte 0x00 is `RLC B`: the prefix row has no word of its own (log 8). -/
theorem test_decode_x3_0 :
    [[0b11000000#8], [0b11000001#8], [0b11000010#8, 0x34#8, 0xC2#8], [0b11000011#8, 0x34#8, 0xC2#8],
      [0b11000100#8, 0x34#8, 0xC2#8], [0b11000101#8], [0b11000110#8, 0x9C#8], [0b11000111#8],
      [0b11001000#8], [0b11001001#8], [0b11001010#8, 0x34#8, 0xC2#8], [0b11001011#8, 0x00#8],
      [0b11001100#8, 0x34#8, 0xC2#8], [0b11001101#8, 0x34#8, 0xC2#8], [0b11001110#8, 0x9C#8],
      [0b11001111#8]].map decode =
    [.ok .retNz, .ok .popBc, .ok (.jpNzN16 0xC234#16), .ok (.jpN16 0xC234#16),
      .ok (.callNzN16 0xC234#16), .ok .pushBc, .ok (.addAN8 0x9C#8), .ok .rst00, .ok .retZ, .ok .ret,
      .ok (.jpZN16 0xC234#16), .ok .rlcB, .ok (.callZN16 0xC234#16), .ok (.callN16 0xC234#16),
      .ok (.adcAN8 0x9C#8), .ok .rst08] := rfl

theorem test_decode_x3_1 :
    [[0b11010000#8], [0b11010001#8], [0b11010010#8, 0x34#8, 0xC2#8], [0b11010011#8],
      [0b11010100#8, 0x34#8, 0xC2#8], [0b11010101#8], [0b11010110#8, 0x9C#8], [0b11010111#8],
      [0b11011000#8], [0b11011001#8], [0b11011010#8, 0x34#8, 0xC2#8], [0b11011011#8],
      [0b11011100#8, 0x34#8, 0xC2#8], [0b11011101#8], [0b11011110#8, 0x9C#8], [0b11011111#8]].map decode =
    [.ok .retNc, .ok .popDe, .ok (.jpNcN16 0xC234#16), .ok .undefinedD3, .ok (.callNcN16 0xC234#16),
      .ok .pushDe, .ok (.subN8 0x9C#8), .ok .rst10, .ok .retC, .ok .reti, .ok (.jpCN16 0xC234#16),
      .ok .undefinedDb, .ok (.callCN16 0xC234#16), .ok .undefinedDd, .ok (.sbcAN8 0x9C#8), .ok .rst18] := rfl

theorem test_decode_x3_2 :
    [[0b11100000#8, 0x9C#8], [0b11100001#8], [0b11100010#8], [0b11100011#8], [0b11100100#8],
      [0b11100101#8], [0b11100110#8, 0x9C#8], [0b11100111#8], [0b11101000#8, 0x9C#8], [0b11101001#8],
      [0b11101010#8, 0x34#8, 0xC2#8], [0b11101011#8], [0b11101100#8], [0b11101101#8],
      [0b11101110#8, 0x9C#8], [0b11101111#8]].map decode =
    [.ok (.ldhIndN8A 0x9C#8), .ok .popHl, .ok .ldhIndCA, .ok .undefinedE3, .ok .undefinedE4,
      .ok .pushHl, .ok (.andN8 0x9C#8), .ok .rst20, .ok (.addSpOff 0x9C#8), .ok .jpHl,
      .ok (.ldIndN16A 0xC234#16), .ok .undefinedEb, .ok .undefinedEc, .ok .undefinedEd,
      .ok (.xorN8 0x9C#8), .ok .rst28] := rfl

theorem test_decode_x3_3 :
    [[0b11110000#8, 0x9C#8], [0b11110001#8], [0b11110010#8], [0b11110011#8], [0b11110100#8],
      [0b11110101#8], [0b11110110#8, 0x9C#8], [0b11110111#8], [0b11111000#8, 0x9C#8], [0b11111001#8],
      [0b11111010#8, 0x34#8, 0xC2#8], [0b11111011#8], [0b11111100#8], [0b11111101#8],
      [0b11111110#8, 0x9C#8], [0b11111111#8]].map decode =
    [.ok (.ldhAIndN8 0x9C#8), .ok .popAf, .ok .ldhAIndC, .ok .di, .ok .undefinedF4, .ok .pushAf,
      .ok (.orN8 0x9C#8), .ok .rst30, .ok (.ldHlSpOff 0x9C#8), .ok .ldSpHl, .ok (.ldAIndN16 0xC234#16),
      .ok .ei, .ok .undefinedFc, .ok .undefinedFd, .ok (.cpN8 0x9C#8), .ok .rst38] := rfl

theorem test_decode_cb_x0_0 :
    [[0b11001011#8, 0b00000000#8], [0b11001011#8, 0b00000001#8], [0b11001011#8, 0b00000010#8],
      [0b11001011#8, 0b00000011#8], [0b11001011#8, 0b00000100#8], [0b11001011#8, 0b00000101#8],
      [0b11001011#8, 0b00000110#8], [0b11001011#8, 0b00000111#8], [0b11001011#8, 0b00001000#8],
      [0b11001011#8, 0b00001001#8], [0b11001011#8, 0b00001010#8], [0b11001011#8, 0b00001011#8],
      [0b11001011#8, 0b00001100#8], [0b11001011#8, 0b00001101#8], [0b11001011#8, 0b00001110#8],
      [0b11001011#8, 0b00001111#8]].map decode =
    [.ok .rlcB, .ok .rlcC, .ok .rlcD, .ok .rlcE, .ok .rlcH, .ok .rlcL, .ok .rlcIndHl, .ok .rlcA,
      .ok .rrcB, .ok .rrcC, .ok .rrcD, .ok .rrcE, .ok .rrcH, .ok .rrcL, .ok .rrcIndHl, .ok .rrcA] := rfl

theorem test_decode_cb_x0_1 :
    [[0b11001011#8, 0b00010000#8], [0b11001011#8, 0b00010001#8], [0b11001011#8, 0b00010010#8],
      [0b11001011#8, 0b00010011#8], [0b11001011#8, 0b00010100#8], [0b11001011#8, 0b00010101#8],
      [0b11001011#8, 0b00010110#8], [0b11001011#8, 0b00010111#8], [0b11001011#8, 0b00011000#8],
      [0b11001011#8, 0b00011001#8], [0b11001011#8, 0b00011010#8], [0b11001011#8, 0b00011011#8],
      [0b11001011#8, 0b00011100#8], [0b11001011#8, 0b00011101#8], [0b11001011#8, 0b00011110#8],
      [0b11001011#8, 0b00011111#8]].map decode =
    [.ok .rlB, .ok .rlC, .ok .rlD, .ok .rlE, .ok .rlH, .ok .rlL, .ok .rlIndHl, .ok .rlA, .ok .rrB,
      .ok .rrC, .ok .rrD, .ok .rrE, .ok .rrH, .ok .rrL, .ok .rrIndHl, .ok .rrA] := rfl

theorem test_decode_cb_x0_2 :
    [[0b11001011#8, 0b00100000#8], [0b11001011#8, 0b00100001#8], [0b11001011#8, 0b00100010#8],
      [0b11001011#8, 0b00100011#8], [0b11001011#8, 0b00100100#8], [0b11001011#8, 0b00100101#8],
      [0b11001011#8, 0b00100110#8], [0b11001011#8, 0b00100111#8], [0b11001011#8, 0b00101000#8],
      [0b11001011#8, 0b00101001#8], [0b11001011#8, 0b00101010#8], [0b11001011#8, 0b00101011#8],
      [0b11001011#8, 0b00101100#8], [0b11001011#8, 0b00101101#8], [0b11001011#8, 0b00101110#8],
      [0b11001011#8, 0b00101111#8]].map decode =
    [.ok .slaB, .ok .slaC, .ok .slaD, .ok .slaE, .ok .slaH, .ok .slaL, .ok .slaIndHl, .ok .slaA,
      .ok .sraB, .ok .sraC, .ok .sraD, .ok .sraE, .ok .sraH, .ok .sraL, .ok .sraIndHl, .ok .sraA] := rfl

theorem test_decode_cb_x0_3 :
    [[0b11001011#8, 0b00110000#8], [0b11001011#8, 0b00110001#8], [0b11001011#8, 0b00110010#8],
      [0b11001011#8, 0b00110011#8], [0b11001011#8, 0b00110100#8], [0b11001011#8, 0b00110101#8],
      [0b11001011#8, 0b00110110#8], [0b11001011#8, 0b00110111#8], [0b11001011#8, 0b00111000#8],
      [0b11001011#8, 0b00111001#8], [0b11001011#8, 0b00111010#8], [0b11001011#8, 0b00111011#8],
      [0b11001011#8, 0b00111100#8], [0b11001011#8, 0b00111101#8], [0b11001011#8, 0b00111110#8],
      [0b11001011#8, 0b00111111#8]].map decode =
    [.ok .swapB, .ok .swapC, .ok .swapD, .ok .swapE, .ok .swapH, .ok .swapL, .ok .swapIndHl, .ok .swapA,
      .ok .srlB, .ok .srlC, .ok .srlD, .ok .srlE, .ok .srlH, .ok .srlL, .ok .srlIndHl, .ok .srlA] := rfl

theorem test_decode_cb_x1_0 :
    [[0b11001011#8, 0b01000000#8], [0b11001011#8, 0b01000001#8], [0b11001011#8, 0b01000010#8],
      [0b11001011#8, 0b01000011#8], [0b11001011#8, 0b01000100#8], [0b11001011#8, 0b01000101#8],
      [0b11001011#8, 0b01000110#8], [0b11001011#8, 0b01000111#8], [0b11001011#8, 0b01001000#8],
      [0b11001011#8, 0b01001001#8], [0b11001011#8, 0b01001010#8], [0b11001011#8, 0b01001011#8],
      [0b11001011#8, 0b01001100#8], [0b11001011#8, 0b01001101#8], [0b11001011#8, 0b01001110#8],
      [0b11001011#8, 0b01001111#8]].map decode =
    [.ok .bit0B, .ok .bit0C, .ok .bit0D, .ok .bit0E, .ok .bit0H, .ok .bit0L, .ok .bit0IndHl, .ok .bit0A,
      .ok .bit1B, .ok .bit1C, .ok .bit1D, .ok .bit1E, .ok .bit1H, .ok .bit1L, .ok .bit1IndHl, .ok .bit1A] := rfl

theorem test_decode_cb_x1_1 :
    [[0b11001011#8, 0b01010000#8], [0b11001011#8, 0b01010001#8], [0b11001011#8, 0b01010010#8],
      [0b11001011#8, 0b01010011#8], [0b11001011#8, 0b01010100#8], [0b11001011#8, 0b01010101#8],
      [0b11001011#8, 0b01010110#8], [0b11001011#8, 0b01010111#8], [0b11001011#8, 0b01011000#8],
      [0b11001011#8, 0b01011001#8], [0b11001011#8, 0b01011010#8], [0b11001011#8, 0b01011011#8],
      [0b11001011#8, 0b01011100#8], [0b11001011#8, 0b01011101#8], [0b11001011#8, 0b01011110#8],
      [0b11001011#8, 0b01011111#8]].map decode =
    [.ok .bit2B, .ok .bit2C, .ok .bit2D, .ok .bit2E, .ok .bit2H, .ok .bit2L, .ok .bit2IndHl, .ok .bit2A,
      .ok .bit3B, .ok .bit3C, .ok .bit3D, .ok .bit3E, .ok .bit3H, .ok .bit3L, .ok .bit3IndHl, .ok .bit3A] := rfl

theorem test_decode_cb_x1_2 :
    [[0b11001011#8, 0b01100000#8], [0b11001011#8, 0b01100001#8], [0b11001011#8, 0b01100010#8],
      [0b11001011#8, 0b01100011#8], [0b11001011#8, 0b01100100#8], [0b11001011#8, 0b01100101#8],
      [0b11001011#8, 0b01100110#8], [0b11001011#8, 0b01100111#8], [0b11001011#8, 0b01101000#8],
      [0b11001011#8, 0b01101001#8], [0b11001011#8, 0b01101010#8], [0b11001011#8, 0b01101011#8],
      [0b11001011#8, 0b01101100#8], [0b11001011#8, 0b01101101#8], [0b11001011#8, 0b01101110#8],
      [0b11001011#8, 0b01101111#8]].map decode =
    [.ok .bit4B, .ok .bit4C, .ok .bit4D, .ok .bit4E, .ok .bit4H, .ok .bit4L, .ok .bit4IndHl, .ok .bit4A,
      .ok .bit5B, .ok .bit5C, .ok .bit5D, .ok .bit5E, .ok .bit5H, .ok .bit5L, .ok .bit5IndHl, .ok .bit5A] := rfl

theorem test_decode_cb_x1_3 :
    [[0b11001011#8, 0b01110000#8], [0b11001011#8, 0b01110001#8], [0b11001011#8, 0b01110010#8],
      [0b11001011#8, 0b01110011#8], [0b11001011#8, 0b01110100#8], [0b11001011#8, 0b01110101#8],
      [0b11001011#8, 0b01110110#8], [0b11001011#8, 0b01110111#8], [0b11001011#8, 0b01111000#8],
      [0b11001011#8, 0b01111001#8], [0b11001011#8, 0b01111010#8], [0b11001011#8, 0b01111011#8],
      [0b11001011#8, 0b01111100#8], [0b11001011#8, 0b01111101#8], [0b11001011#8, 0b01111110#8],
      [0b11001011#8, 0b01111111#8]].map decode =
    [.ok .bit6B, .ok .bit6C, .ok .bit6D, .ok .bit6E, .ok .bit6H, .ok .bit6L, .ok .bit6IndHl, .ok .bit6A,
      .ok .bit7B, .ok .bit7C, .ok .bit7D, .ok .bit7E, .ok .bit7H, .ok .bit7L, .ok .bit7IndHl, .ok .bit7A] := rfl

theorem test_decode_cb_x2_0 :
    [[0b11001011#8, 0b10000000#8], [0b11001011#8, 0b10000001#8], [0b11001011#8, 0b10000010#8],
      [0b11001011#8, 0b10000011#8], [0b11001011#8, 0b10000100#8], [0b11001011#8, 0b10000101#8],
      [0b11001011#8, 0b10000110#8], [0b11001011#8, 0b10000111#8], [0b11001011#8, 0b10001000#8],
      [0b11001011#8, 0b10001001#8], [0b11001011#8, 0b10001010#8], [0b11001011#8, 0b10001011#8],
      [0b11001011#8, 0b10001100#8], [0b11001011#8, 0b10001101#8], [0b11001011#8, 0b10001110#8],
      [0b11001011#8, 0b10001111#8]].map decode =
    [.ok .res0B, .ok .res0C, .ok .res0D, .ok .res0E, .ok .res0H, .ok .res0L, .ok .res0IndHl, .ok .res0A,
      .ok .res1B, .ok .res1C, .ok .res1D, .ok .res1E, .ok .res1H, .ok .res1L, .ok .res1IndHl, .ok .res1A] := rfl

theorem test_decode_cb_x2_1 :
    [[0b11001011#8, 0b10010000#8], [0b11001011#8, 0b10010001#8], [0b11001011#8, 0b10010010#8],
      [0b11001011#8, 0b10010011#8], [0b11001011#8, 0b10010100#8], [0b11001011#8, 0b10010101#8],
      [0b11001011#8, 0b10010110#8], [0b11001011#8, 0b10010111#8], [0b11001011#8, 0b10011000#8],
      [0b11001011#8, 0b10011001#8], [0b11001011#8, 0b10011010#8], [0b11001011#8, 0b10011011#8],
      [0b11001011#8, 0b10011100#8], [0b11001011#8, 0b10011101#8], [0b11001011#8, 0b10011110#8],
      [0b11001011#8, 0b10011111#8]].map decode =
    [.ok .res2B, .ok .res2C, .ok .res2D, .ok .res2E, .ok .res2H, .ok .res2L, .ok .res2IndHl, .ok .res2A,
      .ok .res3B, .ok .res3C, .ok .res3D, .ok .res3E, .ok .res3H, .ok .res3L, .ok .res3IndHl, .ok .res3A] := rfl

theorem test_decode_cb_x2_2 :
    [[0b11001011#8, 0b10100000#8], [0b11001011#8, 0b10100001#8], [0b11001011#8, 0b10100010#8],
      [0b11001011#8, 0b10100011#8], [0b11001011#8, 0b10100100#8], [0b11001011#8, 0b10100101#8],
      [0b11001011#8, 0b10100110#8], [0b11001011#8, 0b10100111#8], [0b11001011#8, 0b10101000#8],
      [0b11001011#8, 0b10101001#8], [0b11001011#8, 0b10101010#8], [0b11001011#8, 0b10101011#8],
      [0b11001011#8, 0b10101100#8], [0b11001011#8, 0b10101101#8], [0b11001011#8, 0b10101110#8],
      [0b11001011#8, 0b10101111#8]].map decode =
    [.ok .res4B, .ok .res4C, .ok .res4D, .ok .res4E, .ok .res4H, .ok .res4L, .ok .res4IndHl, .ok .res4A,
      .ok .res5B, .ok .res5C, .ok .res5D, .ok .res5E, .ok .res5H, .ok .res5L, .ok .res5IndHl, .ok .res5A] := rfl

theorem test_decode_cb_x2_3 :
    [[0b11001011#8, 0b10110000#8], [0b11001011#8, 0b10110001#8], [0b11001011#8, 0b10110010#8],
      [0b11001011#8, 0b10110011#8], [0b11001011#8, 0b10110100#8], [0b11001011#8, 0b10110101#8],
      [0b11001011#8, 0b10110110#8], [0b11001011#8, 0b10110111#8], [0b11001011#8, 0b10111000#8],
      [0b11001011#8, 0b10111001#8], [0b11001011#8, 0b10111010#8], [0b11001011#8, 0b10111011#8],
      [0b11001011#8, 0b10111100#8], [0b11001011#8, 0b10111101#8], [0b11001011#8, 0b10111110#8],
      [0b11001011#8, 0b10111111#8]].map decode =
    [.ok .res6B, .ok .res6C, .ok .res6D, .ok .res6E, .ok .res6H, .ok .res6L, .ok .res6IndHl, .ok .res6A,
      .ok .res7B, .ok .res7C, .ok .res7D, .ok .res7E, .ok .res7H, .ok .res7L, .ok .res7IndHl, .ok .res7A] := rfl

theorem test_decode_cb_x3_0 :
    [[0b11001011#8, 0b11000000#8], [0b11001011#8, 0b11000001#8], [0b11001011#8, 0b11000010#8],
      [0b11001011#8, 0b11000011#8], [0b11001011#8, 0b11000100#8], [0b11001011#8, 0b11000101#8],
      [0b11001011#8, 0b11000110#8], [0b11001011#8, 0b11000111#8], [0b11001011#8, 0b11001000#8],
      [0b11001011#8, 0b11001001#8], [0b11001011#8, 0b11001010#8], [0b11001011#8, 0b11001011#8],
      [0b11001011#8, 0b11001100#8], [0b11001011#8, 0b11001101#8], [0b11001011#8, 0b11001110#8],
      [0b11001011#8, 0b11001111#8]].map decode =
    [.ok .set0B, .ok .set0C, .ok .set0D, .ok .set0E, .ok .set0H, .ok .set0L, .ok .set0IndHl, .ok .set0A,
      .ok .set1B, .ok .set1C, .ok .set1D, .ok .set1E, .ok .set1H, .ok .set1L, .ok .set1IndHl, .ok .set1A] := rfl

theorem test_decode_cb_x3_1 :
    [[0b11001011#8, 0b11010000#8], [0b11001011#8, 0b11010001#8], [0b11001011#8, 0b11010010#8],
      [0b11001011#8, 0b11010011#8], [0b11001011#8, 0b11010100#8], [0b11001011#8, 0b11010101#8],
      [0b11001011#8, 0b11010110#8], [0b11001011#8, 0b11010111#8], [0b11001011#8, 0b11011000#8],
      [0b11001011#8, 0b11011001#8], [0b11001011#8, 0b11011010#8], [0b11001011#8, 0b11011011#8],
      [0b11001011#8, 0b11011100#8], [0b11001011#8, 0b11011101#8], [0b11001011#8, 0b11011110#8],
      [0b11001011#8, 0b11011111#8]].map decode =
    [.ok .set2B, .ok .set2C, .ok .set2D, .ok .set2E, .ok .set2H, .ok .set2L, .ok .set2IndHl, .ok .set2A,
      .ok .set3B, .ok .set3C, .ok .set3D, .ok .set3E, .ok .set3H, .ok .set3L, .ok .set3IndHl, .ok .set3A] := rfl

theorem test_decode_cb_x3_2 :
    [[0b11001011#8, 0b11100000#8], [0b11001011#8, 0b11100001#8], [0b11001011#8, 0b11100010#8],
      [0b11001011#8, 0b11100011#8], [0b11001011#8, 0b11100100#8], [0b11001011#8, 0b11100101#8],
      [0b11001011#8, 0b11100110#8], [0b11001011#8, 0b11100111#8], [0b11001011#8, 0b11101000#8],
      [0b11001011#8, 0b11101001#8], [0b11001011#8, 0b11101010#8], [0b11001011#8, 0b11101011#8],
      [0b11001011#8, 0b11101100#8], [0b11001011#8, 0b11101101#8], [0b11001011#8, 0b11101110#8],
      [0b11001011#8, 0b11101111#8]].map decode =
    [.ok .set4B, .ok .set4C, .ok .set4D, .ok .set4E, .ok .set4H, .ok .set4L, .ok .set4IndHl, .ok .set4A,
      .ok .set5B, .ok .set5C, .ok .set5D, .ok .set5E, .ok .set5H, .ok .set5L, .ok .set5IndHl, .ok .set5A] := rfl

theorem test_decode_cb_x3_3 :
    [[0b11001011#8, 0b11110000#8], [0b11001011#8, 0b11110001#8], [0b11001011#8, 0b11110010#8],
      [0b11001011#8, 0b11110011#8], [0b11001011#8, 0b11110100#8], [0b11001011#8, 0b11110101#8],
      [0b11001011#8, 0b11110110#8], [0b11001011#8, 0b11110111#8], [0b11001011#8, 0b11111000#8],
      [0b11001011#8, 0b11111001#8], [0b11001011#8, 0b11111010#8], [0b11001011#8, 0b11111011#8],
      [0b11001011#8, 0b11111100#8], [0b11001011#8, 0b11111101#8], [0b11001011#8, 0b11111110#8],
      [0b11001011#8, 0b11111111#8]].map decode =
    [.ok .set6B, .ok .set6C, .ok .set6D, .ok .set6E, .ok .set6H, .ok .set6L, .ok .set6IndHl, .ok .set6A,
      .ok .set7B, .ok .set7C, .ok .set7D, .ok .set7E, .ok .set7H, .ok .set7L, .ok .set7IndHl, .ok .set7A] := rfl

/-- STOP's second byte is not looked at (40 R182). -/
theorem test_decode_stop_padding : decode [0x10#8, 0x04#8] = .ok .stop := rfl

/-- Bytes too few for the opcode are refused by name. -/
theorem test_decode_missing : decode [] = .error .noOpcode ∧ decode [0xC3#8, 0x34#8] = .error .missingOperand :=
  ⟨rfl, rfl⟩

/-- A word of the table, in both widths of row (30 R164). -/
theorem test_decode_table_words : decodeTableWord 8 0x76 = some .halt ∧ decodeTableWord 16 0xCB37 = some .swapA ∧
    decodeTableWord 24 0xC234EA = some (.ldIndN16A 0xC234#16) := ⟨rfl, rfl, rfl⟩

/-! ## Single steps, from spec/95_test_vectors.md -/

/-- The reset state with other CPU registers, code at its PC and bytes in storage. -/
def start (f : Cpu → Cpu) (code : List Byte) (data : List (Word × Byte)) : State :=
  let s := data.foldl (fun s p => s.place p.1 p.2) (State.reset.mapCpu f)
  s.placeBytes s.cpu.pc code

/-- The reset state with IME, IE and IF set. -/
def interrupts (ime : Bool) (enable request : BitVec 5) (s : State) : State :=
  { s with cpu := { s.cpu with ime := ime }, irq := { s.irq with enable := enable, request := request } }

/-- The state one step later. -/
def after (s : State) : State :=
  match step s with
  | .next t => t
  | .fault _ => s
  | .refused _ => s

/-- The flags by their four bits, Z N H C. -/
def flagBits (s : State) : List Bool := [s.cpu.flags.z, s.cpu.flags.n, s.cpu.flags.h, s.cpu.flags.c]

/-- F's flags from four bits. -/
def flagsOf (z n h c : Bool) : Flags := { z := z, n := n, h := h, c := c }

/-- V1.1. -/
theorem test_nop :
    (fun t : State => (t.cpu.pc, t.cpu.ticks, t.timer.counter, t.ppu.dot))
      (after (start (fun c => c) [0x00#8] [])) =
    (0x0101#16, 4, 0x0004#16, 4) := by decide

/-- V1.3. -/
theorem test_halt_waits :
    (fun t : State => (t.cpu.halted, t.cpu.haltBug, t.cpu.pc))
      (after (interrupts false 4#5 1#5 (start (fun c => c) [0x76#8] []))) =
    (true, false, 0x0101#16) := by decide

/-- S1 step 1. -/
theorem test_halt_bug_armed :
    (fun t : State => (t.cpu.halted, t.cpu.haltBug, t.cpu.pc, t.cpu.ticks))
      (after (interrupts false 4#5 4#5 (start (fun c => { c with pc := 0x0150#16 }) [0x76#8] []))) =
    (false, true, 0x0151#16, 4) := by decide

/-- S1 step 2. -/
theorem test_halt_bug_step :
    (fun t : State => (t.cpu.pc, t.cpu.b, t.cpu.haltBug))
      (after ((fun s : State => { interrupts false 4#5 4#5 s with cpu := { s.cpu with haltBug := true } }) (start (fun c => { c with pc := 0x0151#16, b := 0x00#8, flags := flagsOf false false false false }) [0x04#8] []))) =
    (0x0151#16, 0x01#8, false) := by decide

/-- S1, the jump. -/
theorem test_halt_bug_jump :
    (fun t : State => (t.cpu.pc, t.cpu.ticks))
      (after ((fun s : State => { s with cpu := { s.cpu with haltBug := true } }) (start (fun c => { c with pc := 0x0151#16 }) [0xC3#8, 0x00#8, 0x02#8] []))) =
    (0x01FF#16, 16) := by decide

/-- V1.5. -/
theorem test_stop :
    (fun t : State => (t.cpu.pc, t.cpu.b, t.cpu.stopped, t.cpu.ticks, t.timer.counter))
      (after ((fun s : State => { s with timer := { s.timer with counter := 0x1234#16 } }) (start (fun c => { c with b := 0x00#8 }) [0x10#8, 0x04#8] []))) =
    (0x0102#16, 0x00#8, true, 4, 0x0004#16) := by decide

/-- V1.6. -/
theorem test_stop_edge :
    (fun t : State => (t.timer.tima, t.timer.counter))
      (after ((fun s : State => timerStep 8 (busWrite s 0xFF07#16 0x05#8)) (start (fun c => c) [0x10#8, 0x00#8] []))) =
    (0x01#8, 0x0004#16) := by decide

/-- S2 step 1. -/
theorem test_ei :
    (fun t : State => (t.cpu.ime, t.cpu.imeScheduled, t.cpu.pc, t.irq.dispatch))
      (after (interrupts false 1#5 1#5 (start (fun c => c) [0xFB#8] []))) =
    (false, true, 0x0101#16, .idle) := by decide

/-- S2 step 2. -/
theorem test_ei_next :
    (fun t : State => (t.cpu.ime, t.cpu.imeScheduled, t.cpu.pc, t.irq.dispatch))
      (after ((fun s : State => { interrupts false 1#5 1#5 s with cpu := { s.cpu with imeScheduled := true } }) (start (fun c => { c with pc := 0x0151#16 }) [0x00#8] []))) =
    (true, false, 0x0152#16, .idle) := by decide

/-- S2 step 3. -/
theorem test_dispatch_begins :
    (fun t : State => (t.cpu.ime, t.cpu.pc, t.cpu.a, t.irq.dispatch, t.cpu.ticks))
      (after (interrupts true 1#5 1#5 (start (fun c => { c with pc := 0x0152#16, a := 0x00#8 }) [0x3C#8] []))) =
    (false, 0x0152#16, 0x00#8, .nop0, 4) := by decide

/-- V1.9. -/
theorem test_di :
    (fun t : State => (t.cpu.ime, t.cpu.ticks))
      (after (interrupts true 1#5 0#5 (start (fun c => c) [0xF3#8] []))) =
    (false, 4) := by decide

/-- V1.10. -/
theorem test_di_after_ei :
    (fun t : State => (t.cpu.ime))
      (after ((fun s : State => { s with cpu := { s.cpu with imeScheduled := true } }) (start (fun c => c) [0xF3#8] []))) =
    (true) := by decide

/-- V1.11. -/
theorem test_di_cancels_ei :
    (fun t : State => (t.cpu.ime))
      (after ((fun s : State => { s with cpu := { s.cpu with imeScheduled := true }, cfg := { s.cfg with diCancelsEi := true } }) (start (fun c => c) [0xF3#8] []))) =
    (false) := by decide

/-- V1.13. -/
theorem test_undefined_d3 :
    (fun t : State => (t.cpu.pc, t.cpu.ticks, t.io.diag))
      (after (start (fun c => c) [0xD3#8] [])) =
    (0x0101#16, 4, [.undefinedOpcode 0xD3#8 0x0100#16]) := by decide

/-- V1.14. -/
theorem test_undefined_fd :
    (fun t : State => (t.cpu.pc, t.cpu.ticks, t.io.diag))
      (after (start (fun c => c) [0xFD#8] [])) =
    (0x0101#16, 4, [.undefinedOpcode 0xFD#8 0x0100#16]) := by decide

/-- V1.15. -/
theorem test_swap_a :
    (fun t : State => (t.cpu.a, flagBits t, t.cpu.pc, t.cpu.ticks))
      (after (start (fun c => { c with a := 0xF1#8 }) [0xCB#8, 0x37#8] [])) =
    (0x1F#8, [false, false, false, false], 0x0102#16, 8) := by decide

/-- V2.1. -/
theorem test_ld_b_c :
    (fun t : State => (t.cpu.b, t.cpu.c, t.cpu.ticks))
      (after (start (fun c => { c with c := 0x9C#8 }) [0x41#8] [])) =
    (0x9C#8, 0x9C#8, 4) := by decide

/-- V2.3. -/
theorem test_ld_h_n :
    (fun t : State => (t.cpu.h, t.cpu.pc, t.cpu.ticks))
      (after (start (fun c => c) [0x26#8, 0xC0#8] [])) =
    (0xC0#8, 0x0102#16, 8) := by decide

/-- V2.4. -/
theorem test_ld_h_at_hl :
    (fun t : State => (t.cpu.h, t.cpu.l, t.cpu.ticks))
      (after (start (fun c => { c with h := 0xC0#8, l := 0x10#8 }) [0x66#8] [(0xC010#16, 0x8F#8)])) =
    (0x8F#8, 0x10#8, 8) := by decide

/-- V2.5. -/
theorem test_ld_at_hl_l :
    (fun t : State => (t.mem.read 0xC010, t.cpu.ticks))
      (after (start (fun c => { c with h := 0xC0#8, l := 0x10#8 }) [0x75#8] [])) =
    (0x10#8, 8) := by decide

/-- V2.6. -/
theorem test_ld_at_hl_n :
    (fun t : State => (t.mem.read 0xC010, t.cpu.pc, t.cpu.ticks))
      (after (start (fun c => { c with h := 0xC0#8, l := 0x10#8 }) [0x36#8, 0x5A#8] [])) =
    (0x5A#8, 0x0102#16, 12) := by decide

/-- V2.7. -/
theorem test_ld_a_at_bc :
    (fun t : State => (t.cpu.a, t.cpu.ticks))
      (after (start (fun c => { c with b := 0xC0#8, c := 0x20#8 }) [0x0A#8] [(0xC020#16, 0x33#8)])) =
    (0x33#8, 8) := by decide

/-- V2.8. -/
theorem test_ld_a_at_de :
    (fun t : State => (t.cpu.a, t.cpu.ticks))
      (after (start (fun c => { c with d := 0xC0#8, e := 0x21#8 }) [0x1A#8] [(0xC021#16, 0x77#8)])) =
    (0x77#8, 8) := by decide

/-- V2.9. -/
theorem test_ld_at_bc_a :
    (fun t : State => (t.mem.read 0xC022, t.cpu.ticks))
      (after (start (fun c => { c with b := 0xC0#8, c := 0x22#8, a := 0x45#8 }) [0x02#8] [])) =
    (0x45#8, 8) := by decide

/-- V2.10. -/
theorem test_ld_at_de_a :
    (fun t : State => (t.mem.read 0xC021, t.cpu.ticks))
      (after (start (fun c => { c with d := 0xC0#8, e := 0x21#8, a := 0x44#8 }) [0x12#8] [])) =
    (0x44#8, 8) := by decide

/-- V2.11. -/
theorem test_ld_a_at_nn :
    (fun t : State => (t.cpu.a, t.cpu.pc, t.cpu.ticks))
      (after (start (fun c => c) [0xFA#8, 0x34#8, 0xC2#8] [(0xC234#16, 0x9A#8)])) =
    (0x9A#8, 0x0103#16, 16) := by decide

/-- V2.12. -/
theorem test_ld_at_nn_a :
    (fun t : State => (t.mem.read 0xFF80, t.cpu.ticks))
      (after (start (fun c => { c with a := 0x12#8 }) [0xEA#8, 0x80#8, 0xFF#8] [])) =
    (0x12#8, 16) := by decide

/-- V2.14. -/
theorem test_ldh_a_c :
    (fun t : State => (t.cpu.a, t.cpu.ticks))
      (after ((fun s : State => { s with ppu := { s.ppu with mode := .vBlank, line := 144 } }) (start (fun c => { c with a := 0x00#8, c := 0x44#8 }) [0xF2#8] []))) =
    (0x90#8, 8) := by decide

/-- V2.15. -/
theorem test_ldh_c_a :
    (fun t : State => (t.mem.read 0xFF80, t.cpu.ticks))
      (after (start (fun c => { c with a := 0x3C#8, c := 0x80#8 }) [0xE2#8] [])) =
    (0x3C#8, 8) := by decide

/-- V2.16. -/
theorem test_ldh_a_n :
    (fun t : State => (t.cpu.a, t.cpu.ticks))
      (after (interrupts false 0#5 5#5 (start (fun c => { c with a := 0x00#8 }) [0xF0#8, 0x0F#8] []))) =
    (0xE5#8, 12) := by decide

/-- V2.17. -/
theorem test_ldh_n_a :
    (fun t : State => (t.timer.tacEnable, t.timer.tacSelect, t.cpu.ticks))
      (after (start (fun c => { c with a := 0xFF#8 }) [0xE0#8, 0x07#8] [])) =
    (true, 3#2, 12) := by decide

/-- V2.18. -/
theorem test_ld_a_hl_dec :
    (fun t : State => (t.cpu.a, t.cpu.hl, t.cpu.ticks))
      (after (start (fun c => { c with a := 0x00#8, h := 0x00#8, l := 0x00#8 }) [0x3A#8] [])) =
    (0x00#8, 0xFFFF#16, 8) := by decide

/-- V2.19. -/
theorem test_ld_hl_dec_a :
    (fun t : State => (t.mem.read 0xC000, t.cpu.hl, t.cpu.ticks))
      (after (start (fun c => { c with a := 0x56#8, h := 0xC0#8, l := 0x00#8 }) [0x32#8] [])) =
    (0x56#8, 0xBFFF#16, 8) := by decide

/-- V2.20. -/
theorem test_ld_a_hl_inc :
    (fun t : State => (t.cpu.a, t.cpu.hl, t.cpu.ticks))
      (after (interrupts false 31#5 0#5 (start (fun c => { c with a := 0x00#8, h := 0xFF#8, l := 0xFF#8 }) [0x2A#8] []))) =
    (0xFF#8, 0x0000#16, 8) := by decide

/-- V2.21. -/
theorem test_ld_hl_inc_a :
    (fun t : State => (t.mem.read 0xC0FF, t.cpu.hl, t.cpu.ticks))
      (after (start (fun c => { c with a := 0x56#8, h := 0xC0#8, l := 0xFF#8 }) [0x22#8] [])) =
    (0x56#8, 0xC100#16, 8) := by decide

/-- V2.22. -/
theorem test_write_unmapped :
    (fun t : State => (t.mem, t.io.diag, t.cpu.ticks))
      (after (start (fun c => { c with a := 0x09#8, h := 0xA0#8, l := 0x00#8 }) [0x77#8] [])) =
    ((start (fun c => c) [0x77#8] []).mem, [.unmappedWrite 0xA000#16 0x09#8], 8) := by decide

/-- V2.23. -/
theorem test_read_unmapped :
    (fun t : State => (t.cpu.a, t.io.diag, t.cpu.ticks))
      (after (start (fun c => { c with a := 0x00#8, h := 0xA0#8, l := 0x00#8 }) [0x7E#8] [])) =
    (0xFF#8, [.unmappedRead 0xA000#16], 8) := by decide

/-- V3.1. -/
theorem test_ld_hl_nn :
    (fun t : State => (t.cpu.h, t.cpu.l, t.cpu.pc, t.cpu.ticks))
      (after (start (fun c => c) [0x21#8, 0x34#8, 0x12#8] [])) =
    (0x12#8, 0x34#8, 0x0103#16, 12) := by decide

/-- V3.3. -/
theorem test_ld_at_nn_sp :
    (fun t : State => (t.mem.read 0xC100, t.mem.read 0xC101, t.cpu.pc, t.cpu.ticks))
      (after (start (fun c => { c with sp := 0xFFF8#16 }) [0x08#8, 0x00#8, 0xC1#8] [])) =
    (0xF8#8, 0xFF#8, 0x0103#16, 20) := by decide

/-- V3.4. -/
theorem test_ld_at_ie_sp :
    (fun t : State => (t.irq.enable, t.mem.read 0x0000, t.cpu.ticks))
      (after (start (fun c => { c with sp := 0x1F0A#16 }) [0x08#8, 0xFF#8, 0xFF#8] [])) =
    (0x0A#5, 0x00#8, 20) := by decide

/-- V3.5. -/
theorem test_ld_sp_hl :
    (fun t : State => (t.cpu.sp, flagBits t, t.cpu.ticks))
      (after (start (fun c => { c with h := 0xD0#8, l := 0x00#8 }) [0xF9#8] [])) =
    (0xD000#16, [true, false, true, true], 8) := by decide

/-- V3.6. -/
theorem test_push_bc :
    (fun t : State => (t.cpu.sp, t.mem.read 0xCFFF, t.mem.read 0xCFFE, t.cpu.ticks))
      (after (start (fun c => { c with b := 0x12#8, c := 0x34#8, sp := 0xD000#16 }) [0xC5#8] [])) =
    (0xCFFE#16, 0x12#8, 0x34#8, 16) := by decide

/-- V3.7. -/
theorem test_push_af :
    (fun t : State => (t.mem.read 0xCFFF, t.mem.read 0xCFFE, t.cpu.ticks))
      (after (start (fun c => { c with a := 0x80#8, flags := flagsOf true false true true, sp := 0xD000#16 }) [0xF5#8] [])) =
    (0x80#8, 0xB0#8, 16) := by decide

/-- V3.8. -/
theorem test_pop_hl :
    (fun t : State => (t.cpu.hl, t.cpu.sp, t.cpu.ticks))
      (after (start (fun c => { c with sp := 0xCFFE#16 }) [0xE1#8] [(0xCFFE#16, 0x5F#8), (0xCFFF#16, 0x3C#8)])) =
    (0x3C5F#16, 0xD000#16, 12) := by decide

/-- V3.9. -/
theorem test_pop_af :
    (fun t : State => (t.cpu.a, flagBits t, t.cpu.sp))
      (after (start (fun c => { c with sp := 0xCFFE#16 }) [0xF1#8] [(0xCFFE#16, 0xFF#8), (0xCFFF#16, 0x00#8)])) =
    (0x00#8, [true, true, true, true], 0xD000#16) := by decide

/-- V3.10. -/
theorem test_pop_de_locked :
    (fun t : State => (t.cpu.de, t.cpu.sp))
      (after ((fun s : State => { s with ppu := { s.ppu with mode := .drawing, dot := 80 } }) (start (fun c => { c with sp := 0x9FFE#16 }) [0xD1#8] [(0x9FFE#16, 0x11#8), (0x9FFF#16, 0x22#8)]))) =
    (0xFFFF#16, 0xA000#16) := by decide

/-- V4, row A = 3A, n = C6, C = 0. -/
theorem test_add_n :
    (fun t : State => (t.cpu.a, flagBits t, t.cpu.pc, t.cpu.ticks))
      (after (start (fun c => { c with a := 0x3A#8, flags := flagsOf false false false false }) [0xC6#8, 0xC6#8] [])) =
    (0x00#8, [true, false, true, true], 0x0102#16, 8) := by decide

/-- V4, row A = 00, n = FF, C = 1. -/
theorem test_adc_n :
    (fun t : State => (t.cpu.a, flagBits t, t.cpu.pc, t.cpu.ticks))
      (after (start (fun c => { c with a := 0x00#8, flags := flagsOf false false false true }) [0xCE#8, 0xFF#8] [])) =
    (0x00#8, [true, false, true, true], 0x0102#16, 8) := by decide

/-- V4, row A = 10, n = 01, C = 1. -/
theorem test_sub_n :
    (fun t : State => (t.cpu.a, flagBits t, t.cpu.pc, t.cpu.ticks))
      (after (start (fun c => { c with a := 0x10#8, flags := flagsOf false false false true }) [0xD6#8, 0x01#8] [])) =
    (0x0F#8, [false, true, true, false], 0x0102#16, 8) := by decide

/-- V4, row A = 00, n = FF, C = 1. -/
theorem test_sbc_n :
    (fun t : State => (t.cpu.a, flagBits t, t.cpu.pc, t.cpu.ticks))
      (after (start (fun c => { c with a := 0x00#8, flags := flagsOf false false false true }) [0xDE#8, 0xFF#8] [])) =
    (0x00#8, [true, true, true, true], 0x0102#16, 8) := by decide

/-- V4, row A = 5A, n = A5, C = 0. -/
theorem test_and_n :
    (fun t : State => (t.cpu.a, flagBits t, t.cpu.pc, t.cpu.ticks))
      (after (start (fun c => { c with a := 0x5A#8, flags := flagsOf false false false false }) [0xE6#8, 0xA5#8] [])) =
    (0x00#8, [true, false, true, false], 0x0102#16, 8) := by decide

/-- V4, row A = 3A, n = C6, C = 0. -/
theorem test_xor_n :
    (fun t : State => (t.cpu.a, flagBits t, t.cpu.pc, t.cpu.ticks))
      (after (start (fun c => { c with a := 0x3A#8, flags := flagsOf false false false false }) [0xEE#8, 0xC6#8] [])) =
    (0xFC#8, [false, false, false, false], 0x0102#16, 8) := by decide

/-- V4, row A = 3C, n = 40, C = 0. -/
theorem test_or_n :
    (fun t : State => (t.cpu.a, flagBits t, t.cpu.pc, t.cpu.ticks))
      (after (start (fun c => { c with a := 0x3C#8, flags := flagsOf false false false false }) [0xF6#8, 0x40#8] [])) =
    (0x7C#8, [false, false, false, false], 0x0102#16, 8) := by decide

/-- V4, row A = 00, n = 01, C = 0. -/
theorem test_cp_n :
    (fun t : State => (t.cpu.a, flagBits t, t.cpu.pc, t.cpu.ticks))
      (after (start (fun c => { c with a := 0x00#8, flags := flagsOf false false false false }) [0xFE#8, 0x01#8] [])) =
    (0x00#8, [false, true, true, true], 0x0102#16, 8) := by decide

/-- V4, row A = 0F, n = 00, C = 1. -/
theorem test_adc_n_half :
    (fun t : State => (t.cpu.a, flagBits t, t.cpu.pc, t.cpu.ticks))
      (after (start (fun c => { c with a := 0x0F#8, flags := flagsOf false false false true }) [0xCE#8, 0x00#8] [])) =
    (0x10#8, [false, false, true, false], 0x0102#16, 8) := by decide

/-- V4, row A = FF, n = 0F, C = 1. -/
theorem test_sbc_n_half :
    (fun t : State => (t.cpu.a, flagBits t, t.cpu.pc, t.cpu.ticks))
      (after (start (fun c => { c with a := 0xFF#8, flags := flagsOf false false false true }) [0xDE#8, 0x0F#8] [])) =
    (0xEF#8, [false, true, true, false], 0x0102#16, 8) := by decide

/-- V4.1. -/
theorem test_add_a_b :
    (fun t : State => (t.cpu.a, flagBits t, t.cpu.ticks))
      (after (start (fun c => { c with a := 0x3A#8, b := 0xC6#8 }) [0x80#8] [])) =
    (0x00#8, [true, false, true, true], 4) := by decide

/-- V4.2. -/
theorem test_add_a_a :
    (fun t : State => (t.cpu.a, flagBits t, t.cpu.ticks))
      (after (start (fun c => { c with a := 0x88#8 }) [0x87#8] [])) =
    (0x10#8, [false, false, true, true], 4) := by decide

/-- V4.5. -/
theorem test_adc_a_hl :
    (fun t : State => (t.cpu.a, flagBits t, t.cpu.ticks))
      (after (start (fun c => { c with a := 0xE1#8, h := 0xC0#8, l := 0x00#8, flags := flagsOf false false false true }) [0x8E#8] [(0xC000#16, 0x1E#8)])) =
    (0x00#8, [true, false, true, true], 8) := by decide

/-- V4.8. -/
theorem test_sbc_a_h :
    (fun t : State => (t.cpu.a, flagBits t, t.cpu.ticks))
      (after (start (fun c => { c with a := 0x3B#8, h := 0x2A#8, flags := flagsOf false false false true }) [0x9C#8] [])) =
    (0x10#8, [false, true, false, false], 4) := by decide

/-- V4.15. -/
theorem test_cp_hl :
    (fun t : State => (t.cpu.a, flagBits t, t.cpu.ticks))
      (after (start (fun c => { c with a := 0x3C#8, h := 0xC0#8, l := 0x00#8 }) [0xBE#8] [(0xC000#16, 0x40#8)])) =
    (0x3C#8, [false, true, false, true], 8) := by decide

/-- V4, INC B. -/
theorem test_inc_b :
    (fun t : State => (t.cpu.b, flagBits t, t.cpu.ticks))
      (after (start (fun c => { c with b := 0xFF#8, flags := flagsOf false false false true }) [0x04#8] [])) =
    (0x00#8, [true, false, true, true], 4) := by decide

/-- V4, DEC L. -/
theorem test_dec_l :
    (fun t : State => (t.cpu.l, flagBits t, t.cpu.ticks))
      (after (start (fun c => { c with l := 0x10#8, flags := flagsOf false false false false }) [0x2D#8] [])) =
    (0x0F#8, [false, true, true, false], 4) := by decide

/-- V4, INC (HL). -/
theorem test_inc_at_hl :
    (fun t : State => (t.mem.read 0xC000, flagBits t, t.cpu.ticks))
      (after (start (fun c => { c with h := 0xC0#8, l := 0x00#8, flags := flagsOf false false false false }) [0x34#8] [(0xC000#16, 0x0F#8)])) =
    (0x10#8, [false, false, true, false], 12) := by decide

/-- V4, DEC (HL). -/
theorem test_dec_at_hl :
    (fun t : State => (t.mem.read 0xC000, flagBits t, t.cpu.ticks))
      (after (start (fun c => { c with h := 0xC0#8, l := 0x00#8, flags := flagsOf false false false true }) [0x35#8] [(0xC000#16, 0x00#8)])) =
    (0xFF#8, [false, true, true, true], 12) := by decide

/-- V4, DAA 9A. -/
theorem test_daa_add :
    (fun t : State => (t.cpu.a, flagBits t, t.cpu.ticks))
      (after (start (fun c => { c with a := 0x9A#8, flags := flagsOf false false false false }) [0x27#8] [])) =
    (0x00#8, [true, false, false, true], 4) := by decide

/-- V4, DAA FF after a subtraction. -/
theorem test_daa_sub :
    (fun t : State => (t.cpu.a, flagBits t, t.cpu.ticks))
      (after (start (fun c => { c with a := 0xFF#8, flags := flagsOf false true true true }) [0x27#8] [])) =
    (0x99#8, [false, true, false, true], 4) := by decide

/-- V4, CPL. -/
theorem test_cpl :
    (fun t : State => (t.cpu.a, flagBits t, t.cpu.ticks))
      (after (start (fun c => { c with a := 0x00#8, flags := flagsOf true false false false }) [0x2F#8] [])) =
    (0xFF#8, [true, true, true, false], 4) := by decide

/-- V4, SCF. -/
theorem test_scf :
    (fun t : State => (t.cpu.a, flagBits t, t.cpu.ticks))
      (after (start (fun c => { c with a := 0x35#8, flags := flagsOf true true true true }) [0x37#8] [])) =
    (0x35#8, [true, false, false, true], 4) := by decide

/-- V4, CCF. -/
theorem test_ccf :
    (fun t : State => (t.cpu.a, flagBits t, t.cpu.ticks))
      (after (start (fun c => { c with a := 0x35#8, flags := flagsOf true true true true }) [0x3F#8] [])) =
    (0x35#8, [true, false, false, false], 4) := by decide

/-- V5. -/
theorem test_add_hl_hl :
    (fun t : State => (t.cpu.hl, flagBits t, t.cpu.ticks))
      (after (start (fun c => { c with h := 0x8A#8, l := 0x23#8, flags := flagsOf true false false false }) [0x29#8] [])) =
    (0x1446#16, [true, false, true, true], 8) := by decide

/-- V5. -/
theorem test_add_hl_sp :
    (fun t : State => (t.cpu.hl, flagBits t, t.cpu.ticks))
      (after (start (fun c => { c with h := 0xFF#8, l := 0xFF#8, sp := 0x0001#16, flags := flagsOf false false false false }) [0x39#8] [])) =
    (0x0000#16, [false, false, true, true], 8) := by decide

/-- V5. -/
theorem test_inc_bc :
    (fun t : State => (t.cpu.bc, flagBits t, t.cpu.ticks))
      (after (start (fun c => { c with b := 0xFF#8, c := 0xFF#8, flags := flagsOf true true true true }) [0x03#8] [])) =
    (0x0000#16, [true, true, true, true], 8) := by decide

/-- V5. -/
theorem test_dec_de :
    (fun t : State => (t.cpu.de, flagBits t, t.cpu.ticks))
      (after (start (fun c => { c with d := 0x10#8, e := 0x00#8 }) [0x1B#8] [])) =
    (0x0FFF#16, [true, false, true, true], 8) := by decide

/-- V5. -/
theorem test_add_sp_e :
    (fun t : State => (t.cpu.sp, flagBits t, t.cpu.ticks))
      (after (start (fun c => { c with sp := 0xD0FF#16, flags := flagsOf true true true true }) [0xE8#8, 0xFF#8] [])) =
    (0xD0FE#16, [false, false, true, true], 16) := by decide

/-- V5. -/
theorem test_ld_hl_sp_e :
    (fun t : State => (t.cpu.hl, t.cpu.sp, flagBits t, t.cpu.ticks))
      (after (start (fun c => { c with sp := 0xD000#16, flags := flagsOf true true true true }) [0xF8#8, 0x80#8] [])) =
    (0xCF80#16, 0xD000#16, [false, false, false, false], 12) := by decide

/-- V6, A = 85, C = 1. -/
theorem test_rlca :
    (fun t : State => (t.cpu.a, flagBits t, t.cpu.ticks))
      (after (start (fun c => { c with a := 0x85#8, flags := flagsOf true true true true }) [0x07#8] [])) =
    (0x0B#8, [false, false, false, true], 4) := by decide

/-- V6, A = 85, C = 1. -/
theorem test_rla :
    (fun t : State => (t.cpu.a, flagBits t, t.cpu.ticks))
      (after (start (fun c => { c with a := 0x85#8, flags := flagsOf true true true true }) [0x17#8] [])) =
    (0x0B#8, [false, false, false, true], 4) := by decide

/-- V6, A = 85, C = 1. -/
theorem test_rrca :
    (fun t : State => (t.cpu.a, flagBits t, t.cpu.ticks))
      (after (start (fun c => { c with a := 0x85#8, flags := flagsOf true true true true }) [0x0F#8] [])) =
    (0xC2#8, [false, false, false, true], 4) := by decide

/-- V6, A = 85, C = 1. -/
theorem test_rra :
    (fun t : State => (t.cpu.a, flagBits t, t.cpu.ticks))
      (after (start (fun c => { c with a := 0x85#8, flags := flagsOf true true true true }) [0x1F#8] [])) =
    (0xC2#8, [false, false, false, true], 4) := by decide

/-- V6, B = 80, C = 0. -/
theorem test_rlc_b :
    (fun t : State => (t.cpu.b, flagBits t, t.cpu.pc, t.cpu.ticks))
      (after (start (fun c => { c with b := 0x80#8, flags := flagsOf true true true false }) [0xCB#8, 0x00#8] [])) =
    (0x01#8, [false, false, false, true], 0x0102#16, 8) := by decide

/-- V6, B = 80, C = 0. -/
theorem test_rrc_b :
    (fun t : State => (t.cpu.b, flagBits t, t.cpu.pc, t.cpu.ticks))
      (after (start (fun c => { c with b := 0x80#8, flags := flagsOf true true true false }) [0xCB#8, 0x08#8] [])) =
    (0x40#8, [false, false, false, false], 0x0102#16, 8) := by decide

/-- V6, B = 80, C = 0. -/
theorem test_rl_b :
    (fun t : State => (t.cpu.b, flagBits t, t.cpu.pc, t.cpu.ticks))
      (after (start (fun c => { c with b := 0x80#8, flags := flagsOf true true true false }) [0xCB#8, 0x10#8] [])) =
    (0x00#8, [true, false, false, true], 0x0102#16, 8) := by decide

/-- V6, B = 80, C = 0. -/
theorem test_rr_b :
    (fun t : State => (t.cpu.b, flagBits t, t.cpu.pc, t.cpu.ticks))
      (after (start (fun c => { c with b := 0x80#8, flags := flagsOf true true true false }) [0xCB#8, 0x18#8] [])) =
    (0x40#8, [false, false, false, false], 0x0102#16, 8) := by decide

/-- V6, B = 80, C = 0. -/
theorem test_sla_b :
    (fun t : State => (t.cpu.b, flagBits t, t.cpu.pc, t.cpu.ticks))
      (after (start (fun c => { c with b := 0x80#8, flags := flagsOf true true true false }) [0xCB#8, 0x20#8] [])) =
    (0x00#8, [true, false, false, true], 0x0102#16, 8) := by decide

/-- V6, B = 80, C = 0. -/
theorem test_sra_b :
    (fun t : State => (t.cpu.b, flagBits t, t.cpu.pc, t.cpu.ticks))
      (after (start (fun c => { c with b := 0x80#8, flags := flagsOf true true true false }) [0xCB#8, 0x28#8] [])) =
    (0xC0#8, [false, false, false, false], 0x0102#16, 8) := by decide

/-- V6, B = 80, C = 0. -/
theorem test_swap_b :
    (fun t : State => (t.cpu.b, flagBits t, t.cpu.pc, t.cpu.ticks))
      (after (start (fun c => { c with b := 0x80#8, flags := flagsOf true true true false }) [0xCB#8, 0x30#8] [])) =
    (0x08#8, [false, false, false, false], 0x0102#16, 8) := by decide

/-- V6, B = 80, C = 0. -/
theorem test_srl_b :
    (fun t : State => (t.cpu.b, flagBits t, t.cpu.pc, t.cpu.ticks))
      (after (start (fun c => { c with b := 0x80#8, flags := flagsOf true true true false }) [0xCB#8, 0x38#8] [])) =
    (0x40#8, [false, false, false, false], 0x0102#16, 8) := by decide

/-- V6.3. -/
theorem test_rr_at_hl :
    (fun t : State => (t.mem.read 0xC000, flagBits t, t.cpu.ticks))
      (after (start (fun c => { c with h := 0xC0#8, l := 0x00#8, flags := flagsOf false false false false }) [0xCB#8, 0x1E#8] [(0xC000#16, 0x01#8)])) =
    (0x00#8, [true, false, false, true], 16) := by decide

/-- V6.7. -/
theorem test_bit_7_h :
    (fun t : State => (t.cpu.h, flagBits t, t.cpu.ticks))
      (after (start (fun c => { c with h := 0x80#8, flags := flagsOf false false false true }) [0xCB#8, 0x7C#8] [])) =
    (0x80#8, [false, false, true, true], 8) := by decide

/-- V6.10. -/
theorem test_bit_0_at_hl :
    (fun t : State => (t.mem.read 0xC000, flagBits t, t.cpu.ticks))
      (after (start (fun c => { c with h := 0xC0#8, l := 0x00#8, flags := flagsOf false false false false }) [0xCB#8, 0x46#8] [(0xC000#16, 0xFE#8)])) =
    (0xFE#8, [true, false, true, false], 12) := by decide

/-- V6.11. -/
theorem test_res_7_a :
    (fun t : State => (t.cpu.a, flagBits t, t.cpu.ticks))
      (after (start (fun c => { c with a := 0xFF#8, flags := flagsOf true true true true }) [0xCB#8, 0xBF#8] [])) =
    (0x7F#8, [true, true, true, true], 8) := by decide

/-- V6.13. -/
theorem test_set_3_l :
    (fun t : State => (t.cpu.l, flagBits t, t.cpu.ticks))
      (after (start (fun c => { c with l := 0x00#8, flags := flagsOf false false false false }) [0xCB#8, 0xDD#8] [])) =
    (0x08#8, [false, false, false, false], 8) := by decide

/-- V6.15. -/
theorem test_set_7_at_hl :
    (fun t : State => (t.mem.read 0xC000, flagBits t, t.cpu.ticks))
      (after (start (fun c => { c with h := 0xC0#8, l := 0x00#8, flags := flagsOf false false false false }) [0xCB#8, 0xFE#8] [])) =
    (0x80#8, [false, false, false, false], 16) := by decide

/-- V7.2. -/
theorem test_jp_nz_taken :
    (fun t : State => (t.cpu.pc, t.cpu.ticks))
      (after (start (fun c => { c with pc := 0x0200#16, flags := flagsOf false false false false }) [0xC2#8, 0x00#8, 0x80#8] [])) =
    (0x8000#16, 16) := by decide

/-- V7.3. -/
theorem test_jp_nz_not_taken :
    (fun t : State => (t.cpu.pc, t.cpu.ticks))
      (after (start (fun c => { c with pc := 0x0200#16, flags := flagsOf true false false false }) [0xC2#8, 0x00#8, 0x80#8] [])) =
    (0x0203#16, 12) := by decide

/-- V7.10. -/
theorem test_jp_hl :
    (fun t : State => (t.cpu.pc, t.cpu.ticks))
      (after (start (fun c => { c with pc := 0x0200#16, h := 0xC0#8, l := 0x00#8 }) [0xE9#8] [])) =
    (0xC000#16, 4) := by decide

/-- V7.14. -/
theorem test_jr_back :
    (fun t : State => (t.cpu.pc, t.cpu.ticks))
      (after (start (fun c => { c with pc := 0x0200#16 }) [0x18#8, 0x80#8] [])) =
    (0x0182#16, 12) := by decide

/-- V7.21. -/
theorem test_jr_c :
    (fun t : State => (t.cpu.pc, t.cpu.ticks))
      (after (start (fun c => { c with pc := 0x0200#16, flags := flagsOf false false false true }) [0x38#8, 0xFC#8] [])) =
    (0x01FE#16, 12) := by decide

/-- V7.20. -/
theorem test_jr_nc_not_taken :
    (fun t : State => (t.cpu.pc, t.cpu.ticks))
      (after (start (fun c => { c with pc := 0x0200#16, flags := flagsOf false false false true }) [0x30#8, 0xFC#8] [])) =
    (0x0202#16, 8) := by decide

/-- V7.22. -/
theorem test_call :
    (fun t : State => (t.cpu.pc, t.cpu.sp, t.mem.read 0xCFFF, t.mem.read 0xCFFE, t.cpu.ticks))
      (after (start (fun c => { c with pc := 0x0200#16, sp := 0xD000#16 }) [0xCD#8, 0x00#8, 0x20#8] [])) =
    (0x2000#16, 0xCFFE#16, 0x02#8, 0x03#8, 24) := by decide

/-- V7.24. -/
theorem test_call_c_not_taken :
    (fun t : State => (t.cpu.pc, t.cpu.sp, t.mem.read 0xCFFF, t.cpu.ticks))
      (after (start (fun c => { c with pc := 0x0200#16, sp := 0xD000#16, flags := flagsOf false false false false }) [0xDC#8, 0x00#8, 0x20#8] [])) =
    (0x0203#16, 0xD000#16, 0x00#8, 12) := by decide

/-- V7.26. -/
theorem test_ret :
    (fun t : State => (t.cpu.pc, t.cpu.sp, t.cpu.ticks))
      (after (start (fun c => { c with pc := 0x0200#16, sp := 0xCFFE#16 }) [0xC9#8] [(0xCFFE#16, 0x03#8), (0xCFFF#16, 0x02#8)])) =
    (0x0203#16, 0xD000#16, 16) := by decide

/-- V7.27. -/
theorem test_ret_nz :
    (fun t : State => (t.cpu.pc, t.cpu.sp, t.cpu.ticks))
      (after (start (fun c => { c with pc := 0x0200#16, sp := 0xCFFE#16, flags := flagsOf false false false false }) [0xC0#8] [(0xCFFE#16, 0x03#8), (0xCFFF#16, 0x02#8)])) =
    (0x0203#16, 0xD000#16, 20) := by decide

/-- V7.31. -/
theorem test_rst_28 :
    (fun t : State => (t.cpu.pc, t.cpu.sp, t.mem.read 0xCFFF, t.mem.read 0xCFFE, t.cpu.ticks))
      (after (start (fun c => { c with pc := 0x0234#16, sp := 0xD000#16 }) [0xEF#8] [])) =
    (0x0028#16, 0xCFFE#16, 0x02#8, 0x35#8, 16) := by decide

/-- V7.33. -/
theorem test_reti :
    (fun t : State => (t.cpu.pc, t.cpu.sp, t.cpu.ime, t.cpu.imeScheduled, t.cpu.ticks))
      (after (start (fun c => { c with pc := 0x0200#16, sp := 0xFFFC#16 }) [0xD9#8] [(0xFFFC#16, 0x53#8), (0xFFFD#16, 0x01#8)])) =
    (0x0153#16, 0xFFFE#16, true, false, 16) := by decide

/-- S9. -/
theorem test_rst_at_the_top :
    (fun t : State => (t.cpu.pc, t.cpu.sp, t.mem.read 0xFFFD, t.mem.read 0xFFFC))
      (after (interrupts false 31#5 0#5 (start (fun c => { c with pc := 0xFFFF#16 }) [] []))) =
    (0x0038#16, 0xFFFC#16, 0x00#8, 0x00#8) := by decide

/-- S9. -/
theorem test_push_wraps :
    (fun t : State => (t.irq.enable, t.cpu.sp))
      (after (start (fun c => { c with b := 0x12#8, c := 0x34#8, sp := 0x0001#16 }) [0xC5#8] [])) =
    (0x14#5, 0xFFFF#16) := by decide

/-- S3 step 4. -/
theorem test_dispatch_high_byte :
    (fun t : State => (t.cpu.sp, t.mem.read 0xFFFD, t.irq.dispatch, t.cpu.pc, t.cpu.ticks))
      (after ((fun s : State => { s with irq := { request := 5#5, enable := 5#5, dispatch := .pcStore0 } }) (start (fun c => { c with pc := 0x0153#16 }) [] []))) =
    (0xFFFD#16, 0x01#8, .pcStore1, 0x0153#16, 4) := by decide

/-- S3 step 6. -/
theorem test_dispatch_vector :
    (fun t : State => (t.cpu.pc, t.irq.request, t.irq.dispatch, t.cpu.sp))
      (after ((fun s : State => { s with irq := { request := 5#5, enable := 5#5, dispatch := .pcSet } }) (start (fun c => { c with pc := 0x0153#16, sp := 0xFFFC#16 }) [] []))) =
    (0x0040#16, 4#5, .idle, 0xFFFC#16) := by decide

/-- V8.5. -/
theorem test_dispatch_joypad :
    (fun t : State => (t.cpu.pc, t.irq.request))
      (after ((fun s : State => { s with irq := { request := 16#5, enable := 31#5, dispatch := .pcSet } }) (start (fun c => { c with pc := 0x0153#16, sp := 0xFFFC#16 }) [] []))) =
    (0x0060#16, 0#5) := by decide

/-- V8.12. -/
theorem test_dispatch_none_left :
    (fun t : State => (t.cpu.pc, t.irq.dispatch, t.cpu.ime))
      (after ((fun s : State => { s with irq := { request := 0#5, enable := 4#5, dispatch := .pcSet } }) (start (fun c => { c with pc := 0x0153#16, sp := 0xFFFC#16 }) [] []))) =
    (0x0000#16, .idle, false) := by decide

/-- V1, wake. -/
theorem test_wake :
    (fun t : State => (t.cpu.halted, t.cpu.pc, t.cpu.ime, t.irq.dispatch, t.cpu.ticks))
      (after ((fun s : State => { interrupts true 4#5 4#5 s with cpu := { s.cpu with halted := true, ime := true } }) (start (fun c => { c with pc := 0x0151#16 }) [0x04#8] []))) =
    (false, 0x0151#16, true, .idle, 4) := by decide

/-! ## The timer and the PPU -/

/-- S5: 256 ticks are one count of DIV, and a write of it clears the counter. -/
theorem test_div : (busRead (timerStep 255 State.reset) 0xFF04#16).1 = 0x00#8 ∧
    (busRead (timerStep 256 State.reset) 0xFF04#16).1 = 0x01#8 ∧
    (busWrite (timerStep 256 State.reset) 0xFF04#16 0x5A#8).timer.counter = 0x0000#16 := by decide

/-- The timer of S6: TMA 0xAB, TAC 0x05, TIMA 0xFE. -/
def overflowing (rev : Config.TimerRevision) (n : Nat) : Timer :=
  (timerStep n { State.reset with
    timer := { State.reset.timer with tima := 0xFE#8, tma := 0xAB#8, tacEnable := true, tacSelect := 1#2 },
    cfg := { State.reset.cfg with timerRevision := rev } }).timer

/-- S6: the ticks around the overflow, under either revision. -/
theorem test_tima_overflow (rev : Config.TimerRevision) : (overflowing rev 16).tima = 0xFF#8 ∧
    (overflowing rev 32).overflow = .willOverflow ∧ (overflowing rev 32).tima = 0xFF#8 ∧
    (overflowing rev 33).tima = 0x00#8 ∧ (overflowing rev 34).tima = 0xAB#8 ∧
    (overflowing rev 34).overflow = .counting := by cases rev <;> decide

/-- S7: the glitch of a TAC write. -/
theorem test_tac_glitch : (timerStep 1 (busWrite (timerStep 8 (busWrite State.reset 0xFF07#16 0x05#8)) 0xFF07#16
    0x06#8)).timer.tima = 0x01#8 := by decide

/-- V9.6, V9.7: enabling with the selected bit high, where the revisions differ. -/
theorem test_enable_glitch : ∀ rev : Config.TimerRevision,
    (timerStep 1 (busWrite (timerStep 15 (busWrite { State.reset with cfg := { State.reset.cfg with timerRevision := rev } }
      0xFF07#16 0x01#8)) 0xFF07#16 0x05#8)).timer.tima = match rev with
        | .dmg => 0x00#8
        | .cgb => 0x01#8 := by
  intro rev; cases rev <;> decide

/-- V9.9: a write of TMA cancels the reload. -/
theorem test_tma_cancels : (busWrite { State.reset with timer := { State.reset.timer with overflow := .willOverflow } }
    0xFF06#16 0x20#8).timer.overflow = .counting := by decide

/-- V10, the mode sequencer: the dots around the changes of mode on line 0. -/
theorem test_ppu_modes : ((ppuStep 79 State.reset).ppu.mode, (ppuStep 80 State.reset).ppu.mode,
    (ppuStep 81 State.reset).ppu.x) = (PpuMode.oamScan, PpuMode.drawing, 1) := by decide

/-- V10, the last dots of lines 143 and 153. -/
theorem test_ppu_vblank :
    (fun s : State => (s.ppu.mode, s.ppu.line, s.ppu.dot, s.irq.request))
      (ppuDot { State.reset with ppu := { State.reset.ppu with mode := .hBlank, line := 143, dot := 455 } }) =
      (PpuMode.vBlank, 144, 0, 1#5) ∧
    (fun s : State => (s.ppu.mode, s.ppu.line, s.ppu.dot, s.irq.request))
      (ppuDot { State.reset with ppu := { State.reset.ppu with mode := .vBlank, line := 153, dot := 455 } }) =
      (PpuMode.oamScan, 0, 0, 0#5) := by decide

/-- Memory with bytes placed. -/
def bytesAt (l : List (Nat × Byte)) : Memory := l.foldl (fun m p => m.write p.1 p.2) []

/-- V10.1: a background row. -/
theorem test_background_row :
    (List.range 10).map (fun x => bgPixel (bytesAt [(0x8010, 0x3C#8), (0x8011, 0x7E#8), (0x9800, 0x01#8)]) 0x10#8 x 0) =
      [0#2, 2#2, 3#2, 3#2, 3#2, 3#2, 2#2, 0#2, 0#2, 0#2] := by decide

/-- V10.2: the signed addressing of the tile records. -/
theorem test_background_signed :
    [0, 8].map (fun x => bgPixel (bytesAt [(0x9010, 0xFF#8), (0x8801, 0xFF#8), (0x9800, 0x01#8), (0x9801, 0x80#8)])
      0x00#8 x 0) = [1#2, 2#2] := by decide

/-- V10.6: two objects; where both cover, the smaller X wins. -/
def twoObjects : Memory :=
  bytesAt [(0x8020, 0xFF#8), (0x8031, 0xFF#8), (0xFE00, 0x10#8), (0xFE01, 0x0C#8), (0xFE02, 0x02#8),
    (0xFE04, 0x10#8), (0xFE05, 0x08#8), (0xFE06, 0x03#8)]

theorem test_objects_selected : selectObjects twoObjects 0x10#8 0 = [0, 1] := by decide

theorem test_object_priority :
    [0, 4, 7, 8, 11, 12].map (fun x => pixel twoObjects 0x10#8 [0, 1] x 0) = [2#2, 2#2, 2#2, 1#2, 1#2, 0#2] := by decide

/-- V10.11: an object of 16 lines, flipped vertically. -/
theorem test_tall_object_flipped :
    [0, 7, 8, 15].map (fun y => objPixel (bytesAt [(0x8020, 0xFF#8), (0x802E, 0xFF#8), (0x8031, 0xFF#8), (0x803F, 0xFF#8),
      (0xFE00, 0x10#8), (0xFE01, 0x08#8), (0xFE02, 0x03#8), (0xFE03, 0x40#8)]) 0x14#8 0 0 y) =
      [some 2#2, some 2#2, some 1#2, some 1#2] := by decide

/-! ## The bus -/

/-- V11.3: reads that no unit answers, by their reports. -/
theorem test_unmapped_reads :
    [0xA000#16, 0xBFFF#16, 0xFEA0#16, 0xFEFF#16, 0xFF01#16, 0xFF03#16, 0xFF08#16, 0xFF45#16, 0xFF48#16, 0xFF7F#16].map
      (fun a => ((busRead State.reset a).1, (busRead State.reset a).2.io.diag)) =
    [0xA000#16, 0xBFFF#16, 0xFEA0#16, 0xFEFF#16, 0xFF01#16, 0xFF03#16, 0xFF08#16, 0xFF45#16, 0xFF48#16, 0xFF7F#16].map
      (fun a => (0xFF#8, [.unmappedRead a])) := by decide

/-- V11.2: the echo of work RAM. -/
theorem test_echo : (busRead (busWrite State.reset 0xC123#16 0x42#8) 0xE123#16).1 = 0x42#8 ∧
    (busRead (busWrite State.reset 0xFDFF#16 0x99#8) 0xDDFF#16).1 = 0x99#8 := by decide

/-- V11.5: video RAM while Drawing. -/
theorem test_vram_locked :
    (busRead { State.reset with mem := [(0x8000, 0x77#8)], ppu := { State.reset.ppu with mode := .drawing } } 0x8000#16).1 =
      0xFF#8 ∧
    (busWrite { State.reset with ppu := { State.reset.ppu with mode := .drawing } } 0x8001#16 0x66#8).mem.read 0x8001 =
      0x66#8 := by decide

/-- S10 and V9.3: the bits that read 1. -/
theorem test_high_bits : (busRead (busWrite State.reset 0xFF0F#16 0xA5#8) 0xFF0F#16).1 = 0xE5#8 ∧
    (busRead (busWrite State.reset 0xFFFF#16 0x05#8) 0xFFFF#16).1 = 0xE5#8 ∧
    (busRead (busWrite State.reset 0xFF07#16 0x02#8) 0xFF07#16).1 = 0xFA#8 := by decide

/-- V11.12: the refused copy. -/
theorem test_dma_refused : (busWrite State.reset 0xFF46#16 0xC1#8).io.diag = [.dmaRefused 0xC1#8] ∧
    (busWrite State.reset 0xFF46#16 0xC1#8).mem = [] := by decide

/-- V11.14: the copy, by the last bytes of it. -/
theorem test_dma_copies :
    (dmaCopy 0xC1#8 2 158 { State.reset with mem := [(0xC19F, 0xC5#8)] }).mem = [(0xC19F, 0xC5#8), (0xFE9F, 0xC5#8)] := by
  decide

/-! ## Runs from reset -/

/-- The first step from reset with nothing loaded runs the NOP that empty ROM holds (V1.1). -/
theorem test_first_step : (after State.reset).cpu.pc = 0x0101#16 := by decide

/-- `withFetchWord` places the instruction that the next step runs. -/
theorem test_with_fetch_word : (after (State.reset.withFetchWord 24 0xC234EA)).mem.read 0xC234 = 0x01#8 ∧
    (after (State.reset.withFetchWord 16 0xCB37)).cpu.a = 0x10#8 := by decide

/-! ## Witnesses: states and operands that meet the statements' hypotheses -/

/-- `StorageRegionsReadAndWrite`, at the ends of each range. -/
theorem witness_storage : ∀ p ∈ [(0x8000#16, 0x8000), (0x9FFF#16, 0x9FFF), (0xC000#16, 0xC000), (0xDFFF#16, 0xDFFF),
    (0xE000#16, 0xC000), (0xFDFF#16, 0xDDFF), (0xFE00#16, 0xFE00), (0xFE9F#16, 0xFE9F), (0xFF80#16, 0xFF80),
    (0xFFFE#16, 0xFFFE)], StoresAt p.1 p.2 := by
  dsimp only [StoresAt]; decide

/-- The ranges of storage stop where the map says (20 R95). -/
theorem witness_storage_ends : ∀ p ∈ [(0x7FFF#16, 0x7FFF), (0xA000#16, 0xA000), (0xFEA0#16, 0xFEA0), (0xFF7F#16, 0xFF7F),
    (0xFFFF#16, 0xFFFF), (0xE000#16, 0xE000)], ¬ StoresAt p.1 p.2 := by
  dsimp only [StoresAt]; decide

/-- Memory at reset is in canonical form. -/
theorem witness_memory : State.reset.mem.wf = true := by decide

/-- The reset state in another PPU mode. -/
def inMode (m : PpuMode) : State := { State.reset with ppu := { State.reset.ppu with mode := m } }

/-- `BusWriteFrame`: bytes a write may not store to, and OAM for a copy. -/
theorem witness_may_store :
    (∀ p ∈ [(PpuMode.hBlank, 0xFE00), (.vBlank, 0xFE9F)], MayStore (inMode p.1) 0xFF46#16 p.2) ∧
    (∀ p ∈ [(PpuMode.oamScan, 0xFE00), (.drawing, 0xFE00), (.hBlank, 0xFEA0), (.vBlank, 0xFDFF)],
      ¬ MayStore (inMode p.1) 0xFF46#16 p.2) := by
  dsimp only [MayStore, StoresAt]; decide

/-- `AbsorbedAccessesOnlyReport`: the ends of each unmapped range, and both refusing modes. -/
theorem witness_unmapped : ∀ a ∈ [0xA000#16, 0xBFFF#16, 0xFEA0#16, 0xFEFF#16, 0xFF01#16, 0xFF03#16, 0xFF08#16, 0xFF0E#16,
    0xFF10#16, 0xFF3F#16, 0xFF45#16, 0xFF48#16, 0xFF7F#16], Unmapped a := by
  simp [Unmapped]

/-- The unmapped ranges stop where the map says (20 R95, 10 R74). -/
theorem witness_unmapped_ends : ∀ a ∈ [0x9FFF#16, 0xC000#16, 0xFE9F#16, 0xFF00#16, 0xFF04#16, 0xFF07#16, 0xFF0F#16,
    0xFF40#16, 0xFF44#16, 0xFF46#16, 0xFF47#16, 0xFF80#16], ¬ Unmapped a := by
  simp [Unmapped]

/-- Both refusing modes. -/
theorem witness_refusing : (inMode .oamScan).ppu.mode = .oamScan ∧ (inMode .drawing).ppu.mode = .drawing := by decide

/-- `DmaCopiesOnePage`, in both modes. -/
theorem witness_dma : (inMode .hBlank).mem.wf = true ∧ (inMode .hBlank).ppu.mode = .hBlank ∧
    (inMode .vBlank).mem.wf = true ∧ (inMode .vBlank).ppu.mode = .vBlank := by decide

/-- `CanonicalMemoryIsUnique`. -/
theorem witness_canonical : Memory.wf [(0xC000, 0x01#8)] = true ∧ Memory.wf (Memory.write [] 0xC000 0x01#8) = true ∧
    ∀ a, Memory.read [(0xC000, 0x01#8)] a = Memory.read (Memory.write [] 0xC000 0x01#8) a := by
  refine ⟨by decide, by decide, fun a => rfl⟩

/-- `NopAndUndefinedOpcodesOnlyAdvance`: a member of the list. -/
theorem witness_undefined : (0xFD#8, Instr.undefinedFd) ∈ [(0xD3#8, Instr.undefinedD3), (0xFD#8, .undefinedFd)] := by decide

/-- `HaltStopEiDi`: HALT's two cases. -/
theorem witness_halt :
    (fun s : State => s.cpu.ime = false ∧ s.irq.request &&& s.irq.enable ≠ 0#5) (interrupts false 4#5 4#5 State.reset) ∧
    ¬ (fun s : State => s.cpu.ime = false ∧ s.irq.request &&& s.irq.enable ≠ 0#5) (interrupts true 4#5 4#5 State.reset) ∧
    ¬ (fun s : State => s.cpu.ime = false ∧ s.irq.request &&& s.irq.enable ≠ 0#5) State.reset := by decide

/-- The reset state with SP in work RAM. -/
def onStack (sp : Word) (mode : PpuMode) : State :=
  { inMode mode with cpu := { State.reset.cpu with sp := sp } }

/-- `PushThenPopRestores`, at the ends of high RAM and of video RAM. -/
theorem witness_push_then_pop (p : StackPair) :
    (onStack 0xFFFF#16 .drawing).mem.wf = true ∧
    StoresAt ((onStack 0xFFFF#16 .drawing).cpu.sp - 1#16) 0xFFFE ∧
    StoresAt ((onStack 0xFFFF#16 .drawing).cpu.sp - 2#16) 0xFFFD ∧
    ((onStack 0xFFFF#16 .drawing).ppu.mode = .drawing →
      0xA000 ≤ ((onStack 0xFFFF#16 .drawing).cpu.sp - 2#16).toNat ∧
        0xA000 ≤ ((onStack 0xFFFF#16 .drawing).cpu.sp - 1#16).toNat) ∧
    StoresAt ((onStack 0x8002#16 .hBlank).cpu.sp - 2#16) 0x8000 ∧ (onStack 0x8002#16 .hBlank).ppu.mode ≠ .drawing ∧
    ∃ t u, exec (.mkPush p) (onStack 0xFFFF#16 .drawing) = .next t ∧ exec (.mkPop p) t = .next u := by
  refine ⟨by decide, by dsimp only [StoresAt]; decide, by dsimp only [StoresAt]; decide, by decide, by dsimp only [StoresAt]; decide,
    by decide, ?_⟩
  cases p <;> exact ⟨_, _, rfl, rfl⟩

/-- `RotatesOfAAndOfARegister`: a member of the list. -/
theorem witness_rotate_a : (RotOp.rr, Instr.rra, 0x1F#8) ∈
    [(RotOp.rlc, Instr.rlca, 0x07#8), (.rl, .rla, 0x17#8), (.rrc, .rrca, 0x0F#8), (.rr, .rra, 0x1F#8)] := by decide

/-- `Jumps`, `CallsPushTheReturnAddress`, `ReturnsPopThePc`: every condition holds somewhere and fails somewhere. -/
theorem witness_conditions (cc : Cond) : (∃ f, Holds cc f) ∧ ∃ f, ¬ Holds cc f := by
  cases cc
  · exact ⟨⟨flagsOf false false false false, rfl⟩, flagsOf true false false false, by simp [Holds, flagsOf]⟩
  · exact ⟨⟨flagsOf true false false false, rfl⟩, flagsOf false false false false, by simp [Holds, flagsOf]⟩
  · exact ⟨⟨flagsOf false false false false, rfl⟩, flagsOf false false false true, by simp [Holds, flagsOf]⟩
  · exact ⟨⟨flagsOf false false false true, rfl⟩, flagsOf false false false false, by simp [Holds, flagsOf]⟩

/-- The reset state halted, and in a state of the sequencer. -/
def halted (s : State) : State := { s with cpu := { s.cpu with halted := true } }

def dispatching (d : DispatchState) (s : State) : State := { s with irq := { s.irq with dispatch := d } }

/-- `WaitWakeAndDispatchSteps`: the three cases, the third by either way into it. -/
theorem witness_cases :
    ((halted State.reset).cpu.halted = true ∧
      ¬ (halted State.reset).irq.request &&& (halted State.reset).irq.enable ≠ 0#5) ∧
    (fun s : State => s.cpu.halted = true ∧ s.irq.request &&& s.irq.enable ≠ 0#5)
      (halted (interrupts false 1#5 1#5 State.reset)) ∧
    (fun s : State => s.cpu.halted = false ∧ s.irq.dispatch ≠ .idle) (dispatching .pcSet State.reset) ∧
    (fun s : State => s.cpu.halted = false ∧ s.cpu.ime = true ∧ s.irq.request &&& s.irq.enable ≠ 0#5)
      (interrupts true 16#5 16#5 State.reset) := by decide

/-- `SequencerTransitions`: each state of it, a pending index and none. -/
theorem witness_sequencer :
    (fun s : State => s.irq.dispatch = .idle ∧ s.cpu.ime = true ∧ s.irq.request &&& s.irq.enable ≠ 0#5)
      (interrupts true 1#5 1#5 State.reset) ∧
    (fun s : State => s.irq.dispatch = .idle ∧ ¬ (s.cpu.ime = true ∧ s.irq.request &&& s.irq.enable ≠ 0#5)) State.reset ∧
    (∀ d, (dispatching d State.reset).irq.dispatch = d) ∧
    (fun s : State => (s.irq.request &&& s.irq.enable).getLsbD 4 = true ∧
      ∀ j, j < 4 → (s.irq.request &&& s.irq.enable).getLsbD j = false)
      (dispatching .pcSet (interrupts false 16#5 31#5 State.reset)) ∧
    (fun s : State => s.irq.request &&& s.irq.enable = 0#5) (dispatching .pcSet State.reset) := by
  refine ⟨by decide, by decide, fun d => rfl, by decide, by decide⟩

/-- `DispatchEntersTheHandlerInSixSteps`. -/
theorem witness_dispatch : (fun s : State => s.mem.wf = true ∧ s.cpu.halted = false ∧ s.irq.dispatch = .idle ∧
      s.cpu.ime = true ∧ (s.irq.request &&& s.irq.enable).getLsbD 2 = true ∧
      (∀ j, j < 2 → (s.irq.request &&& s.irq.enable).getLsbD j = false))
      (interrupts true 4#5 31#5 State.reset) ∧
    StoresAt (State.reset.cpu.sp - 1#16) 0xFFFD ∧ StoresAt (State.reset.cpu.sp - 2#16) 0xFFFC := by
  refine ⟨by decide, by dsimp only [StoresAt]; decide, by dsimp only [StoresAt]; decide⟩

/-- `StepRunsTheDecodedInstruction`: from reset, and with both latches armed. -/
theorem witness_step : ∀ s ∈ [State.reset, { State.reset with cpu := { State.reset.cpu with haltBug := true, imeScheduled := true } }],
    s.cpu.halted = false ∧ s.irq.dispatch = .idle ∧ ¬ (s.cpu.ime = true ∧ s.irq.request &&& s.irq.enable ≠ 0#5) ∧
    (fetchBytes { s with cpu := { s.cpu with haltBug := false, imeScheduled := false, en := s.cpu.imeScheduled } }).1 =
      [0x00#8] ∧ decode [0x00#8] = .ok .nop ∧ ∀ s1, ∃ t, exec .nop s1 = .next t := by
  intro s hs
  refine ⟨?_, ?_, ?_, ?_, rfl, fun s1 => ⟨_, rfl⟩⟩ <;> revert s <;> decide

/-- `HaltBugLeavesPcOneLower`. -/
theorem witness_halt_bug : (fun s : State => s.cpu.halted = false ∧ s.irq.dispatch = .idle ∧
      ¬ (s.cpu.ime = true ∧ s.irq.request &&& s.irq.enable ≠ 0#5) ∧ s.cpu.haltBug = true ∧
      ∃ t, cpuStep { s with cpu := { s.cpu with haltBug := false } } = .next t)
    { State.reset with cpu := { State.reset.cpu with haltBug := true } } := by
  refine ⟨by decide, by decide, by decide, by decide, _, rfl⟩

/-- `EnableTakesEffectAfterTheNextInstruction`, with EI, with DI and with another instruction. -/
theorem witness_enable (op : Byte) (h : op ∈ [0xFB#8, 0xF3#8, 0x00#8]) :
    (fun s : State => s.cpu.halted = false ∧ s.irq.dispatch = .idle ∧
      ¬ (s.cpu.ime = true ∧ s.irq.request &&& s.irq.enable ≠ 0#5) ∧ s.cpu.imeScheduled = true ∧
      (fetchBytes (beginInstruction s)).1 = [op] ∧ (∃ i ∈ [Instr.ei, .di, .nop], decode [op] = .ok i) ∧
      ∃ t, cpuStep s = .next t)
    (start (fun c => { c with imeScheduled := true }) [op] []) := by
  simp only [List.mem_cons, List.not_mem_nil, or_false] at h
  rcases h with rfl | rfl | rfl
  · exact ⟨by decide, by decide, by decide, by decide, by decide, ⟨.ei, by decide, rfl⟩, _, rfl⟩
  · exact ⟨by decide, by decide, by decide, by decide, by decide, ⟨.di, by decide, rfl⟩, _, rfl⟩
  · exact ⟨by decide, by decide, by decide, by decide, by decide, ⟨.nop, by decide, rfl⟩, _, rfl⟩

/-- `TimerTick` and `OverflowTakesThreeTicks`: an edge and none, TIMA full and not, the three overflow states. -/
theorem witness_timer :
    Edge { State.reset.timer with tacEnable := true, lastBit := true, tacSelect := 1#2, tima := 0xFF#8 } ∧
    ¬ Edge State.reset.timer ∧ State.reset.timer.overflow = .counting ∧
    Edge (overflowing .dmg 31) ∧ (overflowing .dmg 31).tima = 0xFF#8 ∧ (overflowing .dmg 31).overflow = .counting ∧
    (overflowing .dmg 32).overflow = .willOverflow ∧ (overflowing .dmg 33).overflow = .justOverflowed := by
  dsimp only [Edge]; decide

/-- `DotsWalkTheFrame`, `SelectsTheFirstTenCoveringObjects`, `DrawingStoresOnePixel`: places of the PPU at the ends of the
modes. -/
theorem witness_ppu :
    (∀ p ∈ [(PpuMode.oamScan, 0, 0, 0), (.oamScan, 79, 143, 0), (.drawing, 80, 0, 0), (.drawing, 239, 143, 159),
        (.hBlank, 240, 0, 0), (.hBlank, 455, 143, 0), (.vBlank, 0, 144, 0), (.vBlank, 455, 153, 0)],
      ({ State.reset.ppu with mode := p.1, dot := p.2.1, line := p.2.2.1, x := p.2.2.2 } : Ppu).inPlace = true) ∧
    fbWf State.reset.ppu.fb = true := by decide

/-- `BackgroundPixel`: the last position of the picture. -/
theorem witness_background : (159 : Nat) < 160 ∧ (143 : Nat) < 144 := by decide

/-- `ObjectPixel`: an object that covers the line, a column off it and one on it. -/
theorem witness_object : Covering twoObjects 0x10#8 0 0 ∧ Covering twoObjects 0x14#8 15 0 ∧ ¬ Covering twoObjects 0x10#8 8 0 ∧
    objPixel twoObjects 0x10#8 0 3 0 = none ∧ objPixel twoObjects 0x10#8 0 4 0 = some 1#2 := by
  dsimp only [Covering]; decide

/-- `SmallestXWins`: a list with a winner after a loser, and one with no opaque object. -/
theorem witness_smallest_x : ([0, 1] : List (Fin 40)) = [0] ++ 1 :: [] ∧
    objPixel twoObjects 0x10#8 1 4 0 = some 2#2 ∧
    (twoObjects.read (0xFE00 + 4 * 1 + 1)).toNat < (twoObjects.read (0xFE00 + 4 * 0 + 1)).toNat ∧
    objPixel twoObjects 0x10#8 0 12 0 = none ∧ objPixel twoObjects 0x10#8 1 12 0 = none := by decide

/-- `ResetSatisfiesTheInvariant`, `EveryStepKeepsTheInvariant`: the reset state meets the invariant, and it steps. -/
theorem witness_invariant : State.reset.Inv ∧ ∃ t, step State.reset = .next t :=
  ⟨⟨by decide, by decide, by decide, by decide, by decide, by decide⟩, _, rfl⟩

/-- `RomAndParametersNeverChange`, `TheMachineNeverReadsItsTraces`: a step. -/
theorem witness_a_step : ∃ t, step State.reset = .next t := ⟨_, rfl⟩

/-- `OnlyTheNamedInstructionsChangeFlags`, `OnlyTheirInstructionsWriteTheLatches`: instructions and their next states. -/
theorem witness_keeps_flags : Instr.KeepsFlags .ldBC ∧ (∃ t, exec .ldBC State.reset = .next t) ∧
    ∃ t, exec .nop State.reset = .next t := ⟨.ldReg .b .c, ⟨_, rfl⟩, _, rfl⟩

/-- `MemoryChangesOnlyWhereAnInstructionWrites`: instructions that write the bus, and one that does not. -/
theorem witness_writes (s : State) : WritesAt s .pushBc [s.cpu.sp - 1#16, s.cpu.sp - 2#16] ∧
    WritesAt s (.callN16 0x1234#16) [s.cpu.sp - 1#16, s.cpu.sp - 2#16] ∧
    WritesAt s (.prefixCb 0x06#8) [s.cpu.hl] ∧ ∀ l, ¬ WritesAt s .ldBC l := by
  refine ⟨.push .bc, .call _, .prefixed _ _ (.rotHl .rlc), fun l h => ?_⟩
  generalize hi : Instr.ldBC = i at h
  cases h with
  | ldToHl src => cases src <;> cases hi
  | rotHl op => cases op <;> cases hi
  | resHl b => revert b; decide
  | setHl b => revert b; decide
  | push p => cases p <;> cases hi
  | callIf nn cc h => cases cc <;> cases hi
  | rst y => revert y; decide
  | _ => cases hi

/-- `DecodeReadsBackEveryEncoding`: a well-formed instruction, and bytes after it. -/
theorem witness_round_trip : Instr.wellFormed (.ldIndN16A 0xC234#16) = true ∧
    encode (.ldIndN16A 0xC234#16) ++ [0xFF#8] = [0xEA#8, 0x34#8, 0xC2#8, 0xFF#8] := ⟨rfl, rfl⟩

end Sys2Proof.Tests
end

section
/-! SUPPORT. What a CPU step can do to the machine, said once: an instruction's bus accesses and changes of the
CPU's registers, then a change of the interrupt controller (spec/40_cpu_step_and_control.md R170; 60_exceptions.md
R362). -/

namespace Sys2Proof.Machine

theorem Reaches.trans {s u t : State} (hsu : Reaches s u) (hut : Reaches u t) : Reaches s t := by
  induction hut with
  | refl => exact hsu
  | read a _ ih => exact ih.read a
  | write a v _ ih => exact ih.write a v
  | cpu c _ ih => exact ih.cpu c
  | report r _ ih => exact ih.report r
  | counter _ ih => exact ih.counter

theorem exec_reaches {i : Instr} {s t : State} (h : exec i s = .next t) : Reaches s t := by
  obtain ⟨u, hu, hreach, -⟩ := exec_fine i s
  rw [h] at hu
  cases hu
  exact hreach

theorem fetchBytes_reaches (s : State) : Reaches s (fetchBytes s).2 := by
  have h1 := Reaches.read s.cpu.pc (.refl (s := s))
  have h2 := h1.read (s.cpu.pc + 1#16)
  unfold fetchBytes
  dsimp only [busRead]
  split
  · exact h1
  · exact h2
  · exact h2.read (s.cpu.pc + 2#16)

/-- Case 4 runs some instruction on the state the fetch leaves, then the end of the instruction (40 R174). -/
theorem normalStep_next {s t : State} (h : normalStep s = .next t) :
    ∃ i u, exec i (fetchBytes (beginInstruction s)).2 = .next u ∧ t = endInstruction s.cpu.haltBug u := by
  unfold normalStep at h
  dsimp only at h
  split at h
  · cases h
  · obtain ⟨u, hu, rfl⟩ := (onNext_eq_next _ _ _).mp h
    exact ⟨_, u, hu, rfl⟩

theorem normalStep_reaches {s t : State} (h : normalStep s = .next t) : Reaches s t := by
  obtain ⟨i, u, hu, rfl⟩ := normalStep_next h
  have hfetch : Reaches s (fetchBytes (beginInstruction s)).2 :=
    (Reaches.cpu _ .refl).trans (fetchBytes_reaches (beginInstruction s))
  exact (hfetch.trans (exec_reaches hu)).cpu _

/-- The registers a transition of the sequencer may write (60 R363 to R368): PC, SP and IME. -/
theorem sequencerStep_cpu (s : State) :
    ∃ sp pc ime, (sequencerStep s).cpu = { s.cpu with sp := sp, pc := pc, ime := ime } := by
  unfold sequencerStep
  split
  · unfold beginDispatch
    split <;> exact ⟨_, _, _, rfl⟩
  · exact ⟨_, _, _, rfl⟩
  · exact ⟨_, _, _, rfl⟩
  · exact ⟨_, _, _, by rw [pushByte_eq]; rfl⟩
  · exact ⟨_, _, _, by rw [pushByte_eq]; rfl⟩
  · unfold enterHandler
    split <;> exact ⟨_, _, _, rfl⟩

/-- `t` is what an instruction could lead to from `s`, but for the interrupt controller. -/
def ReachesButIrq (s t : State) : Prop := ∃ u q, Reaches s u ∧ t = { u with irq := q }

theorem Reaches.butIrq {s t : State} (h : Reaches s t) : ReachesButIrq s t := ⟨t, t.irq, h, rfl⟩

theorem sequencerStep_reaches (s : State) : ReachesButIrq s (sequencerStep s) := by
  unfold sequencerStep
  split
  · unfold beginDispatch
    split
    · exact ⟨_, _, .cpu _ .refl, rfl⟩
    · exact Reaches.refl.butIrq
  · exact ⟨_, _, .refl, rfl⟩
  · exact ⟨_, _, .refl, rfl⟩
  · exact ⟨_, _, Reaches.refl.push _, rfl⟩
  · exact ⟨_, _, Reaches.refl.push _, rfl⟩
  · unfold enterHandler
    split <;> exact ⟨_, _, .cpu _ .refl, rfl⟩

theorem waitStep_reaches (s : State) : Reaches s (waitStep s) := .cpu _ .refl

theorem wakeStep_reaches (s : State) : Reaches s (wakeStep s) := .cpu _ (.cpu _ .refl)

theorem dispatchStep_reaches (s : State) : ReachesButIrq s (dispatchStep s) := by
  obtain ⟨u, q, hu, h⟩ := sequencerStep_reaches s
  exact ⟨_, q, .cpu _ hu, by rw [dispatchStep, h]; rfl⟩

/-- Every CPU step is made of an instruction's moves and a change of the interrupt controller. -/
theorem cpuStep_reaches {s t : State} (h : cpuStep s = .next t) : ReachesButIrq s t := by
  obtain ⟨-, -, e⟩ | ⟨-, -, e⟩ | ⟨-, -, e⟩ | ⟨-, -, -, e⟩ := cpuStep_cases s <;> rw [e] at h
  case inl => cases h; exact (wakeStep_reaches s).butIrq
  case inr.inl => cases h; exact (waitStep_reaches s).butIrq
  case inr.inr.inl => cases h; exact dispatchStep_reaches s
  case inr.inr.inr => exact (normalStep_reaches h).butIrq

/-- A step is a CPU step, then the devices' share (70 R460). -/
theorem step_next {s t : State} (h : step s = .next t) : ∃ u, cpuStep s = .next u ∧ t = runDevices u :=
  (onNext_eq_next _ _ _).mp h

end Sys2Proof.Machine
end

section
/-! PROOFS. The machine's invariant (spec/10_state.md R77; 60_exceptions.md R405 to R409): it holds at reset, the CPU
step keeps it, and so does every dot of the PPU. -/

namespace Sys2Proof.Machine

/-! ## What a dot does to the picture, the slots and the PPU's place -/

theorem Ppu.draw_eq (p : Ppu) (c : BitVec 2) : p.draw c = { p with fb := (p.draw c).fb } := by
  unfold Ppu.draw
  split <;> rfl

theorem Ppu.draw_fbWf (p : Ppu) (c : BitVec 2) (h : fbWf p.fb = true) : fbWf (p.draw c).fb = true := by
  unfold Ppu.draw
  split
  next hin =>
    simp only [fbWf, Bool.and_eq_true] at h ⊢
    obtain ⟨hform, hkeys⟩ := h
    exact ⟨sparseWfFrom_write _ _ _ _ _ hform (by omega),
      sparseWrite_all _ (fun k => decide (k < 23040)) _ _ _ hkeys (by simp only [decide_eq_true_eq]; omega)⟩
  next => exact h

@[simp] theorem Ppu.endLine_fb (p : Ppu) : p.endLine.1.fb = p.fb := by
  unfold Ppu.endLine
  dsimp only
  repeat' split
  all_goals rfl

@[simp] theorem Ppu.endLine_slots (p : Ppu) : p.endLine.1.slots = p.slots := by
  unfold Ppu.endLine
  dsimp only
  repeat' split
  all_goals rfl

theorem Ppu.dotStep_of_oamScan (m : Memory) (p : Ppu) (h : p.mode = .oamScan) :
    (p.dotStep m).1 = if 80 ≤ p.dot + 1 then
      { p with dot := p.dot + 1, slots := selectObjects m p.lcdc p.line, mode := .drawing }
    else { p with dot := p.dot + 1 } := by
  simp only [Ppu.dotStep, h, apply_ite Prod.fst]

theorem Ppu.dotStep_of_drawing (m : Memory) (p : Ppu) (h : p.mode = .drawing) :
    (p.dotStep m).1 =
      { p with
        dot := p.dot + 1
        fb := (Ppu.draw { p with dot := p.dot + 1 } (pixel m p.lcdc p.slots p.x p.line)).fb
        x := if p.x + 1 = 160 then 0 else p.x + 1
        mode := if p.x + 1 = 160 then .hBlank else .drawing } := by
  simp only [Ppu.dotStep, h]
  rw [Ppu.draw_eq]
  split <;> rfl

theorem Ppu.dotStep_of_blank (m : Memory) (p : Ppu) (h : p.mode = .hBlank ∨ p.mode = .vBlank) :
    (p.dotStep m).1 = if 456 ≤ p.dot + 1 then (Ppu.endLine { p with dot := p.dot + 1 }).1
    else { p with dot := p.dot + 1 } := by
  obtain h | h := h <;> simp only [Ppu.dotStep, h, apply_ite Prod.fst]

/-- A dot draws only in Drawing (60 R401, R418). -/
theorem Ppu.dotStep_fb (m : Memory) (p : Ppu) :
    (p.dotStep m).1.fb = if p.mode = .drawing then
      (Ppu.draw { p with dot := p.dot + 1 } (pixel m p.lcdc p.slots p.x p.line)).fb else p.fb := by
  cases h : p.mode with
  | oamScan => rw [p.dotStep_of_oamScan m h]; split <;> rfl
  | drawing => rw [p.dotStep_of_drawing m h, if_pos rfl, h]
  | hBlank => rw [p.dotStep_of_blank m (.inl h)]; split <;> simp
  | vBlank => rw [p.dotStep_of_blank m (.inr h)]; split <;> simp

/-- A dot selects objects only at the end of OamScan (60 R406, R408). -/
theorem Ppu.dotStep_slots (m : Memory) (p : Ppu) :
    (p.dotStep m).1.slots =
      if p.mode = .oamScan ∧ 80 ≤ p.dot + 1 then selectObjects m p.lcdc p.line else p.slots := by
  cases h : p.mode with
  | oamScan => rw [p.dotStep_of_oamScan m h]; split <;> simp [*]
  | drawing => rw [p.dotStep_of_drawing m h]; rfl
  | hBlank => rw [p.dotStep_of_blank m (.inl h)]; split <;> simp
  | vBlank => rw [p.dotStep_of_blank m (.inr h)]; split <;> simp

theorem Ppu.dotStep_fbWf (m : Memory) (p : Ppu) (h : fbWf p.fb = true) : fbWf (p.dotStep m).1.fb = true := by
  rw [p.dotStep_fb m]
  split
  · exact Ppu.draw_fbWf _ _ h
  · exact h

/-- The objects selected are a part of OAM's forty, in their order (60 R408). -/
theorem selectObjects_sublist (m : Memory) (lcdc : Byte) (line : Nat) :
    (selectObjects m lcdc line).Sublist (List.finRange 40) :=
  (List.take_sublist _ _).trans List.filter_sublist

theorem Ppu.dotStep_slotsWf (m : Memory) (p : Ppu) (h : p.slotsWf = true) : (p.dotStep m).1.slotsWf = true := by
  unfold Ppu.slotsWf at h ⊢
  rw [p.dotStep_slots m]
  split
  · have hlen : (selectObjects m p.lcdc p.line).length ≤ 10 := List.length_take_le _ _
    have hord : (selectObjects m p.lcdc p.line).Pairwise (fun i j => i.val < j.val) :=
      (List.pairwise_lt_finRange 40).sublist (selectObjects_sublist m p.lcdc p.line)
    rw [decide_eq_true hlen, decide_eq_true hord]
    rfl
  · exact h

theorem Ppu.inPlace_oamScan {p : Ppu} (h : p.mode = .oamScan) :
    p.inPlace = true ↔ p.dot < 80 ∧ p.line < 144 ∧ p.x = 0 := by
  simp [Ppu.inPlace, h, and_assoc]

theorem Ppu.inPlace_drawing {p : Ppu} (h : p.mode = .drawing) :
    p.inPlace = true ↔ 80 ≤ p.dot ∧ p.dot < 240 ∧ p.line < 144 ∧ p.dot = 80 + p.x := by
  simp [Ppu.inPlace, h, and_assoc]

theorem Ppu.inPlace_hBlank {p : Ppu} (h : p.mode = .hBlank) :
    p.inPlace = true ↔ 240 ≤ p.dot ∧ p.dot < 456 ∧ p.line < 144 ∧ p.x = 0 := by
  simp [Ppu.inPlace, h, and_assoc]

theorem Ppu.inPlace_vBlank {p : Ppu} (h : p.mode = .vBlank) :
    p.inPlace = true ↔ p.dot < 456 ∧ 144 ≤ p.line ∧ p.line ≤ 153 ∧ p.x = 0 := by
  simp [Ppu.inPlace, h, and_assoc]

/-- The end of a line of the picture (60 R409). -/
theorem Ppu.endLine_inPlace_of_hBlank (p : Ppu) (h : p.mode = .hBlank) (hdot : p.dot = 456) (hline : p.line < 144)
    (hx : p.x = 0) : p.endLine.1.inPlace = true := by
  simp only [Ppu.endLine, h]
  split
  · refine Iff.mpr (Ppu.inPlace_vBlank rfl) ?_
    dsimp only
    omega
  · refine Iff.mpr (Ppu.inPlace_oamScan rfl) ?_
    dsimp only
    omega

/-- The end of a line below the picture (60 R410). -/
theorem Ppu.endLine_inPlace_of_vBlank (p : Ppu) (h : p.mode = .vBlank) (hdot : p.dot = 456) (hlow : 144 ≤ p.line)
    (hline : p.line ≤ 153) (hx : p.x = 0) : p.endLine.1.inPlace = true := by
  simp only [Ppu.endLine, h]
  split
  · refine Iff.mpr (Ppu.inPlace_oamScan rfl) ?_
    dsimp only
    omega
  · refine Iff.mpr (Ppu.inPlace_vBlank rfl) ?_
    dsimp only
    omega

/-- A dot moves the PPU from a place of a frame to a place of a frame (60 R401 to R410). -/
theorem Ppu.dotStep_inPlace (m : Memory) (p : Ppu) (h : p.inPlace = true) : (p.dotStep m).1.inPlace = true := by
  cases hm : p.mode with
  | oamScan =>
    obtain ⟨hdot, hline, hx⟩ := (Ppu.inPlace_oamScan hm).mp h
    rw [p.dotStep_of_oamScan m hm]
    split
    · refine Iff.mpr (Ppu.inPlace_drawing rfl) ?_
      dsimp only
      omega
    · refine Iff.mpr (Ppu.inPlace_oamScan hm) ?_
      dsimp only
      omega
  | drawing =>
    obtain ⟨hlow, hdot, hline, hx⟩ := (Ppu.inPlace_drawing hm).mp h
    rw [p.dotStep_of_drawing m hm]
    by_cases hlast : p.x + 1 = 160
    · refine Iff.mpr (Ppu.inPlace_hBlank (if_pos hlast)) ?_
      simp only [if_pos hlast, and_true]
      omega
    · refine Iff.mpr (Ppu.inPlace_drawing (if_neg hlast)) ?_
      simp only [if_neg hlast]
      omega
  | hBlank =>
    obtain ⟨hlow, hdot, hline, hx⟩ := (Ppu.inPlace_hBlank hm).mp h
    rw [p.dotStep_of_blank m (.inl hm)]
    split
    · exact Ppu.endLine_inPlace_of_hBlank _ hm (by dsimp only; omega) hline hx
    · refine Iff.mpr (Ppu.inPlace_hBlank hm) ?_
      dsimp only
      omega
  | vBlank =>
    obtain ⟨hdot, hlow, hline, hx⟩ := (Ppu.inPlace_vBlank hm).mp h
    rw [p.dotStep_of_blank m (.inr hm)]
    split
    · exact Ppu.endLine_inPlace_of_vBlank _ hm (by dsimp only; omega) hlow hline hx
    · refine Iff.mpr (Ppu.inPlace_vBlank hm) ?_
      dsimp only
      omega

/-! ## The devices keep the invariant -/

theorem ppuDot_inv {s : State} (h : s.Inv) : (ppuDot s).Inv where
  memory := by rw [ppuDot_mem]; exact h.memory
  picture := by rw [ppuDot_ppu]; exact Ppu.dotStep_fbWf _ _ h.picture
  ppu := by rw [ppuDot_ppu]; exact Ppu.dotStep_inPlace _ _ h.ppu
  slots := by rw [ppuDot_ppu]; exact Ppu.dotStep_slotsWf _ _ h.slots
  waiting := by rw [ppuDot_cpu, ppuDot_dispatch]; exact h.waiting
  latch := by rw [ppuDot_cpu]; exact h.latch

theorem ppuStep_inv (n : Nat) {s : State} (h : s.Inv) : (ppuStep n s).Inv := by
  induction n generalizing s with
  | zero => exact h
  | succ n ih => exact ih (ppuDot_inv h)

theorem timerStep_inv (n : Nat) {s : State} (h : s.Inv) : (timerStep n s).Inv where
  memory := by rw [timerStep_mem]; exact h.memory
  picture := by rw [timerStep_ppu]; exact h.picture
  ppu := by rw [timerStep_ppu]; exact h.ppu
  slots := by rw [timerStep_ppu]; exact h.slots
  waiting := by rw [timerStep_cpu, timerStep_dispatch]; exact h.waiting
  latch := by rw [timerStep_cpu]; exact h.latch

theorem runDevices_inv {s : State} (h : s.Inv) : (runDevices s).Inv := ppuStep_inv _ (timerStep_inv _ h)

/-! ## The CPU step keeps the invariant -/

theorem Reaches.inPlace_eq {s t : State} (h : Reaches s t) : t.ppu.inPlace = s.ppu.inPlace := by
  simp only [Ppu.inPlace, h.mode_eq, h.dot_eq, h.line_eq, h.x_eq]

theorem Reaches.slotsWf_eq {s t : State} (h : Reaches s t) : t.ppu.slotsWf = s.ppu.slotsWf := by
  simp only [Ppu.slotsWf, h.slots_eq]

/-- The parts of the invariant about memory and the PPU outlast any move that the CPU makes; what is left to show is
about its latches. -/
theorem ReachesButIrq.inv {s t : State} (h : ReachesButIrq s t) (hs : s.Inv)
    (hwait : t.cpu.halted = true → t.irq.dispatch = .idle) (hlatch : t.cpu.en = false) : t.Inv := by
  obtain ⟨u, q, hu, rfl⟩ := h
  exact
    { memory := hu.wf hs.memory
      picture := hu.fb_eq.symm ▸ hs.picture
      ppu := hu.inPlace_eq.trans hs.ppu
      slots := hu.slotsWf_eq.trans hs.slots
      waiting := hwait
      latch := hlatch }

theorem dispatchStep_inv {s : State} (hs : s.Inv) (hrun : s.cpu.halted = false) : (dispatchStep s).Inv := by
  obtain ⟨sp, pc, ime, hcpu⟩ := sequencerStep_cpu s
  refine (dispatchStep_reaches s).inv hs (fun hh => ?_) ?_
  · rw [dispatchStep, State.spend_cpu, hcpu] at hh
    exact absurd (hrun.symm.trans hh) Bool.false_ne_true
  · rw [dispatchStep, State.spend_cpu, hcpu]
    exact hs.latch

/-- An instruction runs while no dispatch is under way, and none begins one; its end clears `en`. -/
theorem normalStep_inv {s t : State} (hs : s.Inv) (hidle : s.irq.dispatch = .idle) (h : normalStep s = .next t) :
    t.Inv := by
  refine (normalStep_reaches h).butIrq.inv hs (fun _ => (normalStep_reaches h).dispatch_eq.trans hidle) ?_
  obtain ⟨i, u, -, rfl⟩ := normalStep_next h
  rfl

theorem cpuStep_inv {s t : State} (hs : s.Inv) (h : cpuStep s = .next t) : t.Inv := by
  obtain ⟨-, -, e⟩ | ⟨-, -, e⟩ | ⟨hrun, -, e⟩ | ⟨-, hidle, -, e⟩ := cpuStep_cases s <;> rw [e] at h
  case inl =>
    cases h
    exact (wakeStep_reaches s).butIrq.inv hs (fun hh => absurd hh Bool.false_ne_true) hs.latch
  case inr.inl =>
    cases h
    exact (waitStep_reaches s).butIrq.inv hs hs.waiting hs.latch
  case inr.inr.inl =>
    cases h
    exact dispatchStep_inv hs hrun
  case inr.inr.inr => exact normalStep_inv hs hidle h

/-- Settles O50: the CPU step keeps the invariant, and so do the devices' ticks and dots. -/
theorem everyStepKeepsTheInvariant : Obligations.EveryStepKeepsTheInvariant := by
  intro s t hs h
  obtain ⟨u, hu, rfl⟩ := step_next h
  exact runDevices_inv (cpuStep_inv hs hu)

/-! ## Reset, and the canonical form -/

theorem resetWith_inv (cfg : Config.Params) (r : Config.ResetRegs) (mem : Memory) (h : mem.wf = true) :
    (State.resetWith cfg r mem).Inv where
  memory := h
  picture := rfl
  ppu := rfl
  slots := rfl
  waiting := fun _ => rfl
  latch := rfl

/-- Settles O49: memory is the one given, and every other part is at its reset value. -/
theorem resetSatisfiesTheInvariant : Obligations.ResetSatisfiesTheInvariant :=
  ⟨resetWith_inv _ _ [] rfl, resetWith_inv⟩

/-- Settles O7: canonical lists that read alike are equal. -/
theorem canonicalMemoryIsUnique : Obligations.CanonicalMemoryIsUnique := by
  intro m m' h h' heq
  unfold Memory.wf at h h'
  rw [Bool.and_eq_true] at h h'
  exact sparse_ext Memory.unlisted m m' 0 0 h.1 h'.1 heq

/-! ## What no step changes -/

theorem ReachesButIrq.cfg_eq {s t : State} (h : ReachesButIrq s t) : t.cfg = s.cfg := by
  obtain ⟨u, q, hu, rfl⟩ := h
  exact hu.cfg_eq

theorem ReachesButIrq.rom {s t : State} (h : ReachesButIrq s t) (k : Nat) (hk : k < 0x8000) :
    t.mem.read k = s.mem.read k := by
  obtain ⟨u, q, hu, rfl⟩ := h
  exact hu.rom k hk

/-- Settles O51: no move of the CPU writes ROM or the parameters, and the devices leave both alone. -/
theorem romAndParametersNeverChange : Obligations.RomAndParametersNeverChange := by
  intro s t h
  obtain ⟨u, hu, rfl⟩ := step_next h
  rw [runDevices_cfg, runDevices_mem]
  exact ⟨(cpuStep_reaches hu).cfg_eq, (cpuStep_reaches hu).rom⟩

end Sys2Proof.Machine
end

section
/-! SUPPORT. The CPU's registers after each operation, written out from the state it starts from
(spec/10_state.md R30 to R42). The other registers and latches are those of that state. -/

namespace Sys2Proof.Machine

/-! ## The stack -/

@[simp] theorem push16_cpu (s : State) (v : Word) : (push16 s v).cpu = { s.cpu with sp := s.cpu.sp - 2#16 } := by
  rw [push16_eq]

@[simp] theorem pop16_cpu (s : State) : (pop16 s).2.cpu = { s.cpu with sp := s.cpu.sp + 2#16 } := by
  rw [pop16_eq]

/-! ## Loads -/

@[simp] theorem loadReg_cpu (dst src : Reg8) (s : State) : (loadReg dst src s).cpu =
    { s.cpu.setReg dst (s.cpu.reg src) with pc := s.cpu.pc + 1#16, ticks := 4 } := by simp [loadReg]

@[simp] theorem loadImm_cpu (dst : Reg8) (n : Byte) (s : State) : (loadImm dst n s).cpu =
    { s.cpu.setReg dst n with pc := s.cpu.pc + 2#16, ticks := 8 } := by simp [loadImm]

@[simp] theorem loadFromHl_cpu (dst : Reg8) (s : State) : (loadFromHl dst s).cpu =
    { s.cpu.setReg dst (busValue s s.cpu.hl) with pc := s.cpu.pc + 1#16, ticks := 8 } := by simp [loadFromHl, readHl]

@[simp] theorem storeToHl_cpu (r : Reg8) (s : State) : (storeToHl r s).cpu =
    { s.cpu with pc := s.cpu.pc + 1#16, ticks := 8 } := by simp [storeToHl, writeHl]

@[simp] theorem storeImmToHl_cpu (n : Byte) (s : State) : (storeImmToHl n s).cpu =
    { s.cpu with pc := s.cpu.pc + 2#16, ticks := 12 } := by simp [storeImmToHl, writeHl]

@[simp] theorem loadA_cpu (ea len : Word) (ticks : Nat) (s : State) : (loadA ea len ticks s).cpu =
    { s.cpu with a := busValue s ea, pc := s.cpu.pc + len, ticks := ticks } := by simp [loadA]

@[simp] theorem storeA_cpu (ea len : Word) (ticks : Nat) (s : State) : (storeA ea len ticks s).cpu =
    { s.cpu with pc := s.cpu.pc + len, ticks := ticks } := by simp [storeA]

@[simp] theorem loadAStep_cpu (delta : Word) (s : State) : (loadAStep delta s).cpu =
    { s.cpu.setHl (s.cpu.hl + delta) with a := busValue s s.cpu.hl, pc := s.cpu.pc + 1#16, ticks := 8 } := by
  simp [loadAStep, readHl, Cpu.setHl, Cpu.hl]

@[simp] theorem storeAStep_cpu (delta : Word) (s : State) : (storeAStep delta s).cpu =
    { s.cpu.setHl (s.cpu.hl + delta) with pc := s.cpu.pc + 1#16, ticks := 8 } := by simp [storeAStep, writeHl]

@[simp] theorem loadPair_cpu (p : Pair) (nn : Word) (s : State) : (loadPair p nn s).cpu =
    { s.cpu.setPair p nn with pc := s.cpu.pc + 3#16, ticks := 12 } := by simp [loadPair]

@[simp] theorem storeSp_cpu (nn : Word) (s : State) : (storeSp nn s).cpu =
    { s.cpu with pc := s.cpu.pc + 3#16, ticks := 20 } := by simp [storeSp, memWrite16]

@[simp] theorem loadSpHl_cpu (s : State) : (loadSpHl s).cpu =
    { s.cpu with sp := s.cpu.hl, pc := s.cpu.pc + 1#16, ticks := 8 } := rfl

@[simp] theorem loadHlSpOff_cpu (e : Byte) (s : State) : (loadHlSpOff e s).cpu =
    { s.cpu.setHl (spPlusE s.cpu.sp e).1 with
      flags := (spPlusE s.cpu.sp e).2, pc := s.cpu.pc + 2#16, ticks := 12 } := rfl

@[simp] theorem pushPair_cpu (p : StackPair) (s : State) : (pushPair p s).cpu =
    { s.cpu with sp := s.cpu.sp - 2#16, pc := s.cpu.pc + 1#16, ticks := 16 } := by simp [pushPair]

@[simp] theorem popPair_cpu (p : StackPair) (s : State) : (popPair p s).cpu =
    { s.cpu.setStackPair p (pop16 s).1 with sp := s.cpu.sp + 2#16, pc := s.cpu.pc + 1#16, ticks := 12 } := by
  cases p <;> simp [popPair, Cpu.setStackPair, Cpu.setHl]

/-! ## Arithmetic and logic -/

@[simp] theorem aluReg_cpu (op : AluOp) (r : Reg8) (s : State) : (aluReg op r s).cpu =
    { s.cpu with a := (aluResult op s.cpu.a (s.cpu.reg r) s.cpu.flags.c).1,
                 flags := (aluResult op s.cpu.a (s.cpu.reg r) s.cpu.flags.c).2,
                 pc := s.cpu.pc + 1#16, ticks := 4 } := rfl

@[simp] theorem aluHl_cpu (op : AluOp) (s : State) : (aluHl op s).cpu =
    { s.cpu with a := (aluResult op s.cpu.a (busValue s s.cpu.hl) s.cpu.flags.c).1,
                 flags := (aluResult op s.cpu.a (busValue s s.cpu.hl) s.cpu.flags.c).2,
                 pc := s.cpu.pc + 1#16, ticks := 8 } := by simp [aluHl, readHl, applyAlu]

@[simp] theorem aluImm_cpu (op : AluOp) (n : Byte) (s : State) : (aluImm op n s).cpu =
    { s.cpu with a := (aluResult op s.cpu.a n s.cpu.flags.c).1, flags := (aluResult op s.cpu.a n s.cpu.flags.c).2,
                 pc := s.cpu.pc + 2#16, ticks := 8 } := rfl

@[simp] theorem incReg_cpu (r : Reg8) (s : State) : (incReg r s).cpu =
    { s.cpu.setReg r (inc8 (s.cpu.reg r) s.cpu.flags).1 with
      flags := (inc8 (s.cpu.reg r) s.cpu.flags).2, pc := s.cpu.pc + 1#16, ticks := 4 } := by simp [incReg]

@[simp] theorem decReg_cpu (r : Reg8) (s : State) : (decReg r s).cpu =
    { s.cpu.setReg r (dec8 (s.cpu.reg r) s.cpu.flags).1 with
      flags := (dec8 (s.cpu.reg r) s.cpu.flags).2, pc := s.cpu.pc + 1#16, ticks := 4 } := by simp [decReg]

@[simp] theorem incHl_cpu (s : State) : (incHl s).cpu =
    { s.cpu with flags := (inc8 (busValue s s.cpu.hl) s.cpu.flags).2, pc := s.cpu.pc + 1#16, ticks := 12 } := by
  simp [incHl, readHl, writeHl]

@[simp] theorem decHl_cpu (s : State) : (decHl s).cpu =
    { s.cpu with flags := (dec8 (busValue s s.cpu.hl) s.cpu.flags).2, pc := s.cpu.pc + 1#16, ticks := 12 } := by
  simp [decHl, readHl, writeHl]

@[simp] theorem daaOp_cpu (s : State) : (daaOp s).cpu =
    { s.cpu with a := (daaResult s.cpu.a s.cpu.flags).1, flags := (daaResult s.cpu.a s.cpu.flags).2,
                 pc := s.cpu.pc + 1#16, ticks := 4 } := rfl

@[simp] theorem complementOp_cpu (s : State) : (complementOp s).cpu =
    { s.cpu with a := ~~~s.cpu.a, flags := { s.cpu.flags with n := true, h := true },
                 pc := s.cpu.pc + 1#16, ticks := 4 } := rfl

@[simp] theorem setCarryOp_cpu (s : State) : (setCarryOp s).cpu =
    { s.cpu with flags := { s.cpu.flags with n := false, h := false, c := true },
                 pc := s.cpu.pc + 1#16, ticks := 4 } := rfl

@[simp] theorem flipCarryOp_cpu (s : State) : (flipCarryOp s).cpu =
    { s.cpu with flags := { s.cpu.flags with n := false, h := false, c := !s.cpu.flags.c },
                 pc := s.cpu.pc + 1#16, ticks := 4 } := rfl

@[simp] theorem addHlPair_cpu (p : Pair) (s : State) : (addHlPair p s).cpu =
    { s.cpu.setHl (addHl16 s.cpu.hl (s.cpu.pair p) s.cpu.flags).1 with
      flags := (addHl16 s.cpu.hl (s.cpu.pair p) s.cpu.flags).2, pc := s.cpu.pc + 1#16, ticks := 8 } := rfl

@[simp] theorem incPair_cpu (p : Pair) (s : State) : (incPair p s).cpu =
    { s.cpu.setPair p (s.cpu.pair p + 1#16) with pc := s.cpu.pc + 1#16, ticks := 8 } := by simp [incPair]

@[simp] theorem decPair_cpu (p : Pair) (s : State) : (decPair p s).cpu =
    { s.cpu.setPair p (s.cpu.pair p - 1#16) with pc := s.cpu.pc + 1#16, ticks := 8 } := by simp [decPair]

@[simp] theorem addSpOffset_cpu (e : Byte) (s : State) : (addSpOffset e s).cpu =
    { s.cpu with sp := (spPlusE s.cpu.sp e).1, flags := (spPlusE s.cpu.sp e).2,
                 pc := s.cpu.pc + 2#16, ticks := 16 } := rfl

/-! ## Rotates, shifts and bits -/

@[simp] theorem rotateA_cpu (op : RotOp) (s : State) : (rotateA op s).cpu =
    { s.cpu with a := (rotResult op s.cpu.a s.cpu.flags.c).1,
                 flags := rotAFlags (rotResult op s.cpu.a s.cpu.flags.c).2,
                 pc := s.cpu.pc + 1#16, ticks := 4 } := rfl

@[simp] theorem rotReg_cpu (op : RotOp) (r : Reg8) (s : State) : (rotReg op r s).cpu =
    { s.cpu.setReg r (rotResult op (s.cpu.reg r) s.cpu.flags.c).1 with
      flags := rotFlags (rotResult op (s.cpu.reg r) s.cpu.flags.c).1 (rotResult op (s.cpu.reg r) s.cpu.flags.c).2,
      pc := s.cpu.pc + 2#16, ticks := 8 } := by simp [rotReg]

@[simp] theorem rotHl_cpu (op : RotOp) (s : State) : (rotHl op s).cpu =
    { s.cpu with
      flags := rotFlags (rotResult op (busValue s s.cpu.hl) s.cpu.flags.c).1
        (rotResult op (busValue s s.cpu.hl) s.cpu.flags.c).2,
      pc := s.cpu.pc + 2#16, ticks := 16 } := by simp [rotHl, readHl, writeHl]

@[simp] theorem bitTestReg_cpu (b : Fin 8) (r : Reg8) (s : State) : (bitTestReg b r s).cpu =
    { s.cpu with flags := bitTestFlags (s.cpu.reg r) b s.cpu.flags, pc := s.cpu.pc + 2#16, ticks := 8 } := rfl

@[simp] theorem bitTestHl_cpu (b : Fin 8) (s : State) : (bitTestHl b s).cpu =
    { s.cpu with flags := bitTestFlags (busValue s s.cpu.hl) b s.cpu.flags, pc := s.cpu.pc + 2#16, ticks := 12 } := by
  simp [bitTestHl, readHl]

@[simp] theorem bitResetReg_cpu (b : Fin 8) (r : Reg8) (s : State) : (bitResetReg b r s).cpu =
    { s.cpu.setReg r (clearBit (s.cpu.reg r) b) with pc := s.cpu.pc + 2#16, ticks := 8 } := by simp [bitResetReg]

@[simp] theorem bitResetHl_cpu (b : Fin 8) (s : State) : (bitResetHl b s).cpu =
    { s.cpu with pc := s.cpu.pc + 2#16, ticks := 16 } := by simp [bitResetHl, readHl, writeHl]

@[simp] theorem bitSetReg_cpu (b : Fin 8) (r : Reg8) (s : State) : (bitSetReg b r s).cpu =
    { s.cpu.setReg r (setBit (s.cpu.reg r) b) with pc := s.cpu.pc + 2#16, ticks := 8 } := by simp [bitSetReg]

@[simp] theorem bitSetHl_cpu (b : Fin 8) (s : State) : (bitSetHl b s).cpu =
    { s.cpu with pc := s.cpu.pc + 2#16, ticks := 16 } := by simp [bitSetHl, readHl, writeHl]

/-! ## Control flow -/

@[simp] theorem jumpTo_cpu (nn : Word) (s : State) : (jumpTo nn s).cpu = { s.cpu with pc := nn, ticks := 16 } := rfl

@[simp] theorem jumpHl_cpu (s : State) : (jumpHl s).cpu = { s.cpu with pc := s.cpu.hl, ticks := 4 } := rfl

@[simp] theorem jumpRel_cpu (e : Byte) (s : State) : (jumpRel e s).cpu =
    { s.cpu with pc := relTarget s.cpu.pc e, ticks := 12 } := rfl

@[simp] theorem jumpIf_cpu (cc : Cond) (nn : Word) (s : State) : (jumpIf cc nn s).cpu =
    { s.cpu with pc := if condHolds cc s.cpu.flags then nn else s.cpu.pc + 3#16,
                 ticks := if condHolds cc s.cpu.flags then 16 else 12 } := by
  unfold jumpIf
  split <;> rfl

@[simp] theorem jumpRelIf_cpu (cc : Cond) (e : Byte) (s : State) : (jumpRelIf cc e s).cpu =
    { s.cpu with pc := if condHolds cc s.cpu.flags then relTarget s.cpu.pc e else s.cpu.pc + 2#16,
                 ticks := if condHolds cc s.cpu.flags then 12 else 8 } := by
  unfold jumpRelIf
  split <;> rfl

@[simp] theorem callTo_cpu (nn : Word) (s : State) : (callTo nn s).cpu =
    { s.cpu with sp := s.cpu.sp - 2#16, pc := nn, ticks := 24 } := by simp [callTo]

@[simp] theorem callIf_cpu (cc : Cond) (nn : Word) (s : State) : (callIf cc nn s).cpu =
    { s.cpu with sp := if condHolds cc s.cpu.flags then s.cpu.sp - 2#16 else s.cpu.sp,
                 pc := if condHolds cc s.cpu.flags then nn else s.cpu.pc + 3#16,
                 ticks := if condHolds cc s.cpu.flags then 24 else 12 } := by
  unfold callIf
  split <;> simp

@[simp] theorem returnTo_cpu (s : State) : (returnTo s).cpu =
    { s.cpu with sp := s.cpu.sp + 2#16, pc := (pop16 s).1, ticks := 16 } := by simp [returnTo]

@[simp] theorem returnIf_cpu (cc : Cond) (s : State) : (returnIf cc s).cpu =
    { s.cpu with sp := if condHolds cc s.cpu.flags then s.cpu.sp + 2#16 else s.cpu.sp,
                 pc := if condHolds cc s.cpu.flags then (pop16 s).1 else s.cpu.pc + 1#16,
                 ticks := if condHolds cc s.cpu.flags then 20 else 8 } := by
  unfold returnIf
  split <;> simp

@[simp] theorem returnFromInterrupt_cpu (s : State) : (returnFromInterrupt s).cpu =
    { s.cpu with sp := s.cpu.sp + 2#16, pc := (pop16 s).1, ime := true, ticks := 16 } := by
  simp [returnFromInterrupt]

@[simp] theorem restart_cpu (y : Fin 8) (s : State) : (restart y s).cpu =
    { s.cpu with sp := s.cpu.sp - 2#16, pc := BitVec.ofNat 16 (8 * y.val), ticks := 16 } := by simp [restart]

/-! ## CPU control -/

@[simp] theorem haltOp_cpu (s : State) : (haltOp s).cpu =
    { s.cpu with haltBug := s.cpu.haltBug || (!s.cpu.ime && s.irq.pending),
                 halted := s.cpu.halted || !(!s.cpu.ime && s.irq.pending),
                 pc := s.cpu.pc + 1#16, ticks := 4 } := by
  unfold haltOp
  cases !s.cpu.ime && s.irq.pending <;> simp

@[simp] theorem stopOp_cpu (s : State) : (stopOp s).cpu =
    { s.cpu with stopped := true, pc := s.cpu.pc + 2#16, ticks := 4 } := rfl

@[simp] theorem enableOp_cpu (s : State) : (enableOp s).cpu =
    { s.cpu with imeScheduled := true, pc := s.cpu.pc + 1#16, ticks := 4 } := rfl

@[simp] theorem disableOp_cpu (s : State) : (disableOp s).cpu =
    { s.cpu with ime := false, en := s.cpu.en && !s.cfg.diCancelsEi, pc := s.cpu.pc + 1#16, ticks := 4 } := rfl

@[simp] theorem undefinedOp_cpu (op : Byte) (s : State) : (undefinedOp op s).cpu =
    { s.cpu with pc := s.cpu.pc + 1#16, ticks := 4 } := rfl

end Sys2Proof.Machine
end

section
/-! PROOFS. Who writes the flags and the latches (spec/10_state.md R37 to R42), family by family. -/

namespace Sys2Proof.Machine

/-! ## The flags -/

/-- In every next state that `r` may be, `f` of the CPU is what it is in `s`. -/
def Keeps {α : Type} (f : Cpu → α) (s : State) (r : Result) : Prop := ∀ t, r = .next t → f t.cpu = f s.cpu

@[simp] theorem keeps_next {α : Type} (f : Cpu → α) (s t : State) : Keeps f s (.next t) ↔ f t.cpu = f s.cpu := by
  constructor
  · exact fun h => h t rfl
  · rintro h u hu
    cases hu
    exact h

/-- A pop of a pair other than AF (10 R37). -/
theorem setStackPair_flags_of_ne_af (c : Cpu) {p : StackPair} (h : p ≠ .af) (v : Word) :
    (c.setStackPair p v).flags = c.flags := by
  cases p with
  | bc | de | hl => rfl
  | af => exact absurd rfl h

theorem exec_keeps_flags {i : Instr} (h : i.KeepsFlags) (s : State) : Keeps Cpu.flags s (exec i s) := by
  cases h with
  | nop => simp [exec_nop]
  | stop => simp [exec_stop]
  | halt => simp [exec_halt]
  | di => simp [exec_di]
  | ei => simp [exec_ei]
  | undefinedD3 => simp [exec_undefinedD3]
  | undefinedDb => simp [exec_undefinedDb]
  | undefinedDd => simp [exec_undefinedDd]
  | undefinedE3 => simp [exec_undefinedE3]
  | undefinedE4 => simp [exec_undefinedE4]
  | undefinedEb => simp [exec_undefinedEb]
  | undefinedEc => simp [exec_undefinedEc]
  | undefinedEd => simp [exec_undefinedEd]
  | undefinedF4 => simp [exec_undefinedF4]
  | undefinedFc => simp [exec_undefinedFc]
  | undefinedFd => simp [exec_undefinedFd]
  | ldReg dst src => simp [exec_mkLdReg]
  | ldImm n dst => simp [exec_mkLdImm]
  | ldFromHl dst => simp [exec_mkLdFromHl]
  | ldToHl src => simp [exec_mkLdToHl]
  | ldIndHlN8 n => simp [exec_ldIndHlN8]
  | ldAIndBc => simp [exec_ldAIndBc]
  | ldAIndDe => simp [exec_ldAIndDe]
  | ldIndBcA => simp [exec_ldIndBcA]
  | ldIndDeA => simp [exec_ldIndDeA]
  | ldAIndN16 nn => simp [exec_ldAIndN16]
  | ldIndN16A nn => simp [exec_ldIndN16A]
  | ldhAIndC => simp [exec_ldhAIndC]
  | ldhIndCA => simp [exec_ldhIndCA]
  | ldhAIndN8 n => simp [exec_ldhAIndN8]
  | ldhIndN8A n => simp [exec_ldhIndN8A]
  | ldAIndHlDec => simp [exec_ldAIndHlDec]
  | ldIndHlDecA => simp [exec_ldIndHlDecA]
  | ldAIndHlInc => simp [exec_ldAIndHlInc]
  | ldIndHlIncA => simp [exec_ldIndHlIncA]
  | ldPair nn p => simp [exec_mkLdPair]
  | ldIndN16Sp nn => simp [exec_ldIndN16Sp]
  | ldSpHl => simp [exec_ldSpHl]
  | push p => simp [exec_mkPush]
  | pop p hp => simp [exec_mkPop, setStackPair_flags_of_ne_af _ hp]
  | incPair p => simp [exec_mkIncPair]
  | decPair p => simp [exec_mkDecPair]
  | jpN16 nn => simp [exec_jpN16]
  | jp nn cc => simp [exec_mkJp]
  | jpHl => simp [exec_jpHl]
  | jrOff e => simp [exec_jrOff]
  | jr e cc => simp [exec_mkJr]
  | callN16 nn => simp [exec_callN16]
  | call nn cc => simp [exec_mkCall]
  | ret => simp [exec_ret]
  | retIf cc => simp [exec_mkRet]
  | reti => simp [exec_reti]
  | rst y => simp [exec_mkRst]
  | resReg b r => simp [exec_mkResReg]
  | resHl b => simp [exec_mkResHl]
  | setReg b r => simp [exec_mkSetReg]
  | setHl b => simp [exec_mkSetHl]

/-- Settles O52: family by family, and a transition of the sequencer writes PC, SP and IME alone. -/
theorem onlyTheNamedInstructionsChangeFlags : Obligations.OnlyTheNamedInstructionsChangeFlags := by
  constructor
  · exact fun i s t hi h => exec_keeps_flags hi s t h
  · intro s
    obtain ⟨sp, pc, ime, hcpu⟩ := sequencerStep_cpu s
    rw [hcpu]

/-! ## The latches -/

/-- The CPU's latches (10 R38 to R42): IME, the scheduled enable, halted, stopped and the halt bug. -/
def Cpu.latches (c : Cpu) : Bool × Bool × Bool × Bool × Bool :=
  (c.ime, c.imeScheduled, c.halted, c.stopped, c.haltBug)

/-- The instructions that may write a latch (10 R38 to R42). -/
def WritesLatch (i : Instr) : Prop := i = .reti ∨ i = .di ∨ i = .ei ∨ i = .halt ∨ i = .stop

theorem extendedOp_latches (op2 : Byte) (s : State) : (extendedOp op2 s).cpu.latches = s.cpu.latches := by
  unfold extendedOp
  dsimp only
  split <;> simp [Cpu.latches]

theorem exec_keeps_latches {i : Instr} (h : ¬ WritesLatch i) (s : State) : Keeps Cpu.latches s (exec i s) := by
  cases i.kind with
  | reti | di | ei | halt | stop => exact absurd (by simp [WritesLatch]) h
  | ldReg dst src => simp [exec_mkLdReg, Cpu.latches]
  | ldImm n dst => simp [exec_mkLdImm, Cpu.latches]
  | ldFromHl dst => simp [exec_mkLdFromHl, Cpu.latches]
  | ldToHl src => simp [exec_mkLdToHl, Cpu.latches]
  | inc r => simp [exec_mkInc, Cpu.latches]
  | dec r => simp [exec_mkDec, Cpu.latches]
  | aluReg op r => simp [exec_mkAluReg, Cpu.latches]
  | aluHl op => simp [exec_mkAluHl, Cpu.latches]
  | aluImm n op => simp [exec_mkAluImm, Cpu.latches]
  | ldPair nn p => simp [exec_mkLdPair, Cpu.latches]
  | addHl p => simp [exec_mkAddHl, Cpu.latches]
  | incPair p => simp [exec_mkIncPair, Cpu.latches]
  | decPair p => simp [exec_mkDecPair, Cpu.latches]
  | push p => simp [exec_mkPush, Cpu.latches]
  | pop p => simp [exec_mkPop, Cpu.latches]
  | jrIf e cc => simp [exec_mkJr, Cpu.latches]
  | jpIf nn cc => simp [exec_mkJp, Cpu.latches]
  | callIf nn cc => simp [exec_mkCall, Cpu.latches]
  | retIf cc => simp [exec_mkRet, Cpu.latches]
  | rst y => simp [exec_mkRst, Cpu.latches]
  | rotReg op r => simp [exec_mkRotReg, Cpu.latches]
  | rotHl op => simp [exec_mkRotHl, Cpu.latches]
  | bitReg b r => simp [exec_mkBitReg, Cpu.latches]
  | bitHl b => simp [exec_mkBitHl, Cpu.latches]
  | resReg b r => simp [exec_mkResReg, Cpu.latches]
  | resHl b => simp [exec_mkResHl, Cpu.latches]
  | setReg b r => simp [exec_mkSetReg, Cpu.latches]
  | setHl b => simp [exec_mkSetHl, Cpu.latches]
  | nop => simp [exec_nop, Cpu.latches]
  | ldIndBcA => simp [exec_ldIndBcA, Cpu.latches]
  | rlca => simp [exec_rlca, Cpu.latches]
  | ldIndN16Sp nn => simp [exec_ldIndN16Sp, Cpu.latches]
  | ldAIndBc => simp [exec_ldAIndBc, Cpu.latches]
  | rrca => simp [exec_rrca, Cpu.latches]
  | ldIndDeA => simp [exec_ldIndDeA, Cpu.latches]
  | rla => simp [exec_rla, Cpu.latches]
  | jrOff e => simp [exec_jrOff, Cpu.latches]
  | ldAIndDe => simp [exec_ldAIndDe, Cpu.latches]
  | rra => simp [exec_rra, Cpu.latches]
  | ldIndHlIncA => simp [exec_ldIndHlIncA, Cpu.latches]
  | daa => simp [exec_daa, Cpu.latches]
  | ldAIndHlInc => simp [exec_ldAIndHlInc, Cpu.latches]
  | cpl => simp [exec_cpl, Cpu.latches]
  | ldIndHlDecA => simp [exec_ldIndHlDecA, Cpu.latches]
  | incIndHl => simp [exec_incIndHl, Cpu.latches]
  | decIndHl => simp [exec_decIndHl, Cpu.latches]
  | ldIndHlN8 n => simp [exec_ldIndHlN8, Cpu.latches]
  | scf => simp [exec_scf, Cpu.latches]
  | ldAIndHlDec => simp [exec_ldAIndHlDec, Cpu.latches]
  | ccf => simp [exec_ccf, Cpu.latches]
  | jpN16 nn => simp [exec_jpN16, Cpu.latches]
  | ret => simp [exec_ret, Cpu.latches]
  | prefixCb op2 => simp [exec_prefixCb, extendedOp_latches]
  | callN16 nn => simp [exec_callN16, Cpu.latches]
  | undefinedD3 => simp [exec_undefinedD3, Cpu.latches]
  | undefinedDb => simp [exec_undefinedDb, Cpu.latches]
  | undefinedDd => simp [exec_undefinedDd, Cpu.latches]
  | ldhIndN8A n => simp [exec_ldhIndN8A, Cpu.latches]
  | ldhIndCA => simp [exec_ldhIndCA, Cpu.latches]
  | undefinedE3 => simp [exec_undefinedE3, Cpu.latches]
  | undefinedE4 => simp [exec_undefinedE4, Cpu.latches]
  | addSpOff e => simp [exec_addSpOff, Cpu.latches]
  | jpHl => simp [exec_jpHl, Cpu.latches]
  | ldIndN16A nn => simp [exec_ldIndN16A, Cpu.latches]
  | undefinedEb => simp [exec_undefinedEb, Cpu.latches]
  | undefinedEc => simp [exec_undefinedEc, Cpu.latches]
  | undefinedEd => simp [exec_undefinedEd, Cpu.latches]
  | ldhAIndN8 n => simp [exec_ldhAIndN8, Cpu.latches]
  | ldhAIndC => simp [exec_ldhAIndC, Cpu.latches]
  | undefinedF4 => simp [exec_undefinedF4, Cpu.latches]
  | ldHlSpOff e => simp [exec_ldHlSpOff, Cpu.latches]
  | ldSpHl => simp [exec_ldSpHl, Cpu.latches]
  | ldAIndN16 nn => simp [exec_ldAIndN16, Cpu.latches]
  | undefinedFc => simp [exec_undefinedFc, Cpu.latches]
  | undefinedFd => simp [exec_undefinedFd, Cpu.latches]

/-- What an instruction may do to the latches, from `c` to `c'`. -/
def LatchRule (i : Instr) (c c' : Cpu) : Prop :=
  (i ≠ .reti → i ≠ .di → c'.ime = c.ime) ∧ (i ≠ .ei → c'.imeScheduled = c.imeScheduled) ∧
    (i ≠ .halt → c'.halted = c.halted ∧ c'.haltBug = c.haltBug) ∧ (i ≠ .stop → c'.stopped = c.stopped)

theorem LatchRule.of_latches_eq {i : Instr} {c c' : Cpu} (h : c'.latches = c.latches) : LatchRule i c c' := by
  simp only [Cpu.latches, Prod.mk.injEq] at h
  obtain ⟨hime, hsched, hhalted, hstopped, hbug⟩ := h
  exact ⟨fun _ _ => hime, fun _ => hsched, fun _ => ⟨hhalted, hbug⟩, fun _ => hstopped⟩

/-- Each of the five that write a latch writes its own; the others write none. -/
theorem exec_latchRule {i : Instr} {s t : State} (h : exec i s = .next t) : LatchRule i s.cpu t.cpu := by
  by_cases hw : WritesLatch i
  · obtain rfl | rfl | rfl | rfl | rfl := hw
    · rw [exec_reti] at h; cases h; simp [LatchRule]
    · rw [exec_di] at h; cases h; simp [LatchRule]
    · rw [exec_ei] at h; cases h; simp [LatchRule]
    · rw [exec_halt] at h; cases h; simp [LatchRule]
    · rw [exec_stop] at h; cases h; simp [LatchRule]
  · exact .of_latches_eq (exec_keeps_latches hw s t h)

/-- Settles O53: the latches family by family, and no bus access or register write moves the sequencer. -/
theorem onlyTheirInstructionsWriteTheLatches : Obligations.OnlyTheirInstructionsWriteTheLatches := by
  intro i s t h
  obtain ⟨hime, hsched, hhalt, hstop⟩ := exec_latchRule h
  exact ⟨hime, hsched, hhalt, hstop, (exec_reaches h).dispatch_eq⟩

end Sys2Proof.Machine
end

section
/-! PROOFS. The registers and the pair views (spec/10_state.md R30 to R36), and the machine at reset (R80 to R88). -/

namespace Sys2Proof.Machine

/-! ## Words and their bytes -/

theorem joinBytes_toNat (hi lo : Byte) : (joinBytes hi lo).toNat = 256 * hi.toNat + lo.toNat := by
  unfold joinBytes
  rw [BitVec.toNat_append, ← Nat.shiftLeft_add_eq_or_of_lt lo.isLt, Nat.shiftLeft_eq]
  omega

theorem hiByte_eq_ofNat (v : Word) : hiByte v = BitVec.ofNat 8 (v.toNat / 256) :=
  BitVec.eq_of_toNat_eq (by simp [hiByte, Nat.shiftRight_eq_div_pow])

theorem loByte_eq_ofNat (v : Word) : loByte v = BitVec.ofNat 8 v.toNat :=
  BitVec.eq_of_toNat_eq (by simp [loByte])

theorem joinBytes_hiByte_loByte (v : Word) : joinBytes (hiByte v) (loByte v) = v := by
  have hv := v.isLt
  refine BitVec.eq_of_toNat_eq ?_
  rw [joinBytes_toNat, hiByte_eq_ofNat, loByte_eq_ofNat, BitVec.toNat_ofNat, BitVec.toNat_ofNat]
  omega

/-! ## F as a byte -/

theorem toByte_toNat (f : Flags) : f.toByte.toNat =
    (if f.z then 128 else 0) + (if f.n then 64 else 0) + (if f.h then 32 else 0) + (if f.c then 16 else 0) := by
  obtain ⟨z, n, h, c⟩ := f
  cases z <;> cases n <;> cases h <;> cases c <;> rfl

/-- F read back after a write is the byte written without its low nibble (10 R36). -/
theorem toByte_ofByte (v : Byte) : (Flags.ofByte v).toByte = v &&& 0xF0#8 := by
  refine BitVec.eq_of_getLsbD_eq (fun i hi => ?_)
  simp only [Flags.toByte, Flags.ofByte, BitVec.getLsbD_append, BitVec.getLsbD_ofBool, BitVec.getLsbD_and]
  have hbit : i = 0 ∨ i = 1 ∨ i = 2 ∨ i = 3 ∨ i = 4 ∨ i = 5 ∨ i = 6 ∨ i = 7 := by omega
  obtain rfl | rfl | rfl | rfl | rfl | rfl | rfl | rfl := hbit <;> simp

theorem ofByte_loByte (v : Word) : Flags.ofByte (loByte v) =
    { z := v.getLsbD 7, n := v.getLsbD 6, h := v.getLsbD 5, c := v.getLsbD 4 } := by
  simp [Flags.ofByte, loByte]

/-! ## Registers and pairs -/

theorem Cpu.reg_setReg (c : Cpu) (r r' : Reg8) (v : Byte) :
    (c.setReg r v).reg r' = if r' = r then v else c.reg r' := by
  cases r <;> cases r' <;> rfl

/-- With the seven byte registers put back, a write of one of them has changed nothing. -/
theorem Cpu.setReg_frame (c : Cpu) (r : Reg8) (v : Byte) :
    { c.setReg r v with a := c.a, b := c.b, c := c.c, d := c.d, e := c.e, h := c.h, l := c.l } = c := by
  cases r <;> rfl

theorem Cpu.af_toNat (c : Cpu) : c.af.toNat = 256 * c.a.toNat + (if c.flags.z then 128 else 0) +
    (if c.flags.n then 64 else 0) + (if c.flags.h then 32 else 0) + (if c.flags.c then 16 else 0) := by
  rw [Cpu.af, joinBytes_toNat, toByte_toNat]
  omega

theorem Cpu.stackPair_setStackPair (c : Cpu) (p : StackPair) (v : Word) :
    (c.setStackPair p v).stackPair p = if p = .af then v &&& 0xFFF0#16 else v := by
  cases p with
  | bc | de | hl => exact joinBytes_hiByte_loByte v
  | af =>
    calc joinBytes (hiByte v) (Flags.ofByte (loByte v)).toByte
        = joinBytes (hiByte v &&& 0xFF#8) (loByte v &&& 0xF0#8) := by
          rw [toByte_ofByte, show (0xFF#8 : Byte) = BitVec.allOnes 8 from rfl, BitVec.and_allOnes]
      _ = joinBytes (hiByte v) (loByte v) &&& joinBytes 0xFF#8 0xF0#8 := BitVec.and_append.symm
      _ = v &&& 0xFFF0#16 := by rw [joinBytes_hiByte_loByte]; rfl

/-- B is the high byte of BC, and C the low one. -/
theorem Cpu.bc_setB (c : Cpu) (b : Byte) : ({ c with b := b } : Cpu).bc.toNat = 256 * b.toNat + c.bc.toNat % 256 := by
  have hc := c.c.isLt
  simp only [Cpu.bc, joinBytes_toNat]
  omega

/-- Settles O1: the register file case by case, and the pairs by the values of their two bytes. -/
theorem registersAndPairs : Obligations.RegistersAndPairs := by
  intro c r b v
  refine ⟨fun r' => c.reg_setReg r r' b, c.setReg_frame r b, joinBytes_toNat _ _, joinBytes_toNat _ _,
    joinBytes_toNat _ _, c.af_toNat, fun p => ?_, fun p => c.stackPair_setStackPair p v, c.bc_setB,
    rfl, rfl, rfl, rfl, rfl, rfl, rfl, rfl⟩
  cases p with
  | bc | de | hl => simp only [Cpu.setStackPair, Cpu.setHl, hiByte_eq_ofNat, loByte_eq_ofNat]
  | af => simp only [Cpu.setStackPair, hiByte_eq_ofNat, ofByte_loByte]

/-! ## Reset -/

theorem resetWith_divRead (cfg : Config.Params) (r : Config.ResetRegs) (mem : Memory) :
    (busRead (State.resetWith cfg r mem) 0xFF04#16).1 = 0x00#8 := by
  show hiByte 0#16 = 0#8
  decide

theorem resetWith_tacRead (cfg : Config.Params) (r : Config.ResetRegs) (mem : Memory) :
    (busRead (State.resetWith cfg r mem) 0xFF07#16).1 = 0xF8#8 := by
  show 0b11111#5 ++ BitVec.ofBool false ++ 0#2 = 0xF8#8
  decide

theorem resetWith_ifRead (cfg : Config.Params) (r : Config.ResetRegs) (mem : Memory) :
    (busRead (State.resetWith cfg r mem) 0xFF0F#16).1 = 0xE0#8 := by
  show 0b111#3 ++ 0#5 = 0xE0#8
  decide

theorem resetWith_ieRead (cfg : Config.Params) (r : Config.ResetRegs) (mem : Memory) :
    (busRead (State.resetWith cfg r mem) 0xFFFF#16).1 = 0xE0#8 := by
  show 0b111#3 ++ 0#5 = 0xE0#8
  decide

/-- Every control register but IF, IE and TAC reads 0 at reset (10 R81 to R84). -/
theorem resetWith_reads_zero (cfg : Config.Params) (r : Config.ResetRegs) (mem : Memory) :
    ∀ a ∈ [0xFF04#16, 0xFF05#16, 0xFF06#16, 0xFF40#16, 0xFF41#16, 0xFF42#16, 0xFF43#16, 0xFF44#16, 0xFF47#16],
      (busRead (State.resetWith cfg r mem) a).1 = 0x00#8 := by
  simp only [List.forall_mem_cons, List.not_mem_nil, false_implies, implies_true, and_true]
  exact ⟨resetWith_divRead cfg r mem, rfl, rfl, rfl, rfl, rfl, rfl, rfl, rfl⟩

/-- Settles O48: the fields are those of `State.resetWith`, F keeps its four bits, and each read gives its
register's byte. -/
theorem resetStateOfEveryInstance : Obligations.ResetStateOfEveryInstance := by
  intro cfg r mem s
  exact ⟨rfl, rfl, rfl, rfl, rfl, rfl, rfl, rfl, rfl, rfl, rfl, rfl, rfl, rfl, rfl, rfl, rfl,
    fun _ _ _ _ => rfl, resetWith_reads_zero cfg r mem, resetWith_ifRead cfg r mem, resetWith_ieRead cfg r mem,
    resetWith_tacRead cfg r mem, rfl, toByte_ofByte r.f, rfl, rfl, rfl, rfl, rfl, rfl, rfl, rfl, rfl⟩

end Sys2Proof.Machine
end

section
/-! SUPPORT. The address map (spec/20_memory.md R95), range by range, and which addresses store a byte. -/

namespace Sys2Proof.Machine

open Sys2Proof.Rules

/-! ## The units, by the numbers of their addresses -/

theorem busDecode_of_rom {a : Word} (h : a.toNat < 0x8000) : busDecode a = .rom a.toNat := by
  simp (disch := omega) only [busDecode, if_pos]

theorem busDecode_of_vram {a : Word} (h : 0x8000 ≤ a.toNat ∧ a.toNat < 0xA000) : busDecode a = .vram a.toNat := by
  simp (disch := omega) only [busDecode, if_pos, if_neg]

theorem busDecode_of_wram {a : Word} (h : 0xC000 ≤ a.toNat ∧ a.toNat < 0xE000) : busDecode a = .wram a.toNat := by
  simp (disch := omega) only [busDecode, if_pos, if_neg]

theorem busDecode_of_echo {a : Word} (h : 0xE000 ≤ a.toNat ∧ a.toNat < 0xFE00) :
    busDecode a = .wram (a.toNat - 0x2000) := by
  simp (disch := omega) only [busDecode, if_pos, if_neg]

theorem busDecode_of_oam {a : Word} (h : 0xFE00 ≤ a.toNat ∧ a.toNat < 0xFEA0) : busDecode a = .oam a.toNat := by
  simp (disch := omega) only [busDecode, if_pos, if_neg]

theorem busDecode_of_hram {a : Word} (h : 0xFF80 ≤ a.toNat ∧ a.toNat < 0xFFFF) : busDecode a = .hram a.toNat := by
  simp (disch := omega) only [busDecode, if_pos, if_neg]

theorem ioDecode_of_unhandled {n : Nat} (h : n ≠ 0xFF00 ∧ ¬ (0xFF04 ≤ n ∧ n ≤ 0xFF07) ∧ n ≠ 0xFF0F ∧
    ¬ (0xFF40 ≤ n ∧ n ≤ 0xFF44) ∧ n ≠ 0xFF46 ∧ n ≠ 0xFF47) : ioDecode n = .unmapped := by
  simp (disch := omega) only [ioDecode, if_neg]

/-- No unit answers the addresses of 20 R108. -/
theorem busDecode_of_unmapped {a : Word} (h : Unmapped a) : busDecode a = .unmapped := by
  obtain hram | hoam | hio := h
  · simp (disch := omega) only [busDecode, if_pos, if_neg]
  · simp (disch := omega) only [busDecode, if_pos, if_neg]
  · have hdec : busDecode a = ioDecode a.toNat := by
      simp (disch := omega) only [busDecode, if_pos, if_neg]
    exact hdec.trans (ioDecode_of_unhandled (by omega))

/-! ## Storage -/

/-- The key of the byte that a write to the unit stores, if it stores one. -/
def BusUnit.ramKey : BusUnit → Option Nat
  | .vram k | .wram k | .oam k | .hram k => some k
  | _ => none

theorem busWrite_of_ramKey {a : Word} {k : Nat} (h : (busDecode a).ramKey = some k) (s : State) (v : Byte) :
    busWrite s a v = { s with mem := s.mem.write k v } := by
  unfold busWrite
  split <;> simp_all [BusUnit.ramKey]

/-- The addresses of the map by numbers are those the decoder finds RAM at. -/
theorem ramKey_of_storesAt {a : Word} {k : Nat} (h : StoresAt a k) : (busDecode a).ramKey = some k := by
  simp only [StoresAt] at h
  obtain ⟨hv | hw | ho | hh, hk⟩ | ⟨he, hk⟩ := h
  · rw [busDecode_of_vram hv, hk]; rfl
  · rw [busDecode_of_wram hw, hk]; rfl
  · rw [busDecode_of_oam ho, hk]; rfl
  · rw [busDecode_of_hram hh, hk]; rfl
  · rw [busDecode_of_echo he, hk]; rfl

theorem storesAt_of_ramKey {a : Word} {k : Nat} (h : (busDecode a).ramKey = some k) : StoresAt a k := by
  have hr := busDecode_range a
  unfold StoresAt
  cases hd : busDecode a <;> simp only [hd, unitRange, BusUnit.ramKey, Option.some.injEq, reduceCtorEq] at h hr
  all_goals dsimp only; omega

theorem backed_of_storesAt {a : Word} {k : Nat} (h : StoresAt a k) : Memory.backed k = true := by
  simp only [StoresAt] at h
  rw [backed_iff]
  omega

end Sys2Proof.Machine
end

section
/-! PROOFS. The bus (spec/20_memory.md R95 to R113): the storage regions, the registers of the I/O page, the accesses
that are absorbed, the OAM copy, and what a write leaves alone. -/

namespace Sys2Proof.Machine

open Sys2Proof.Rules

/-! ## Storage regions -/

theorem busRead_of_rom {a : Word} (h : a.toNat < 0x8000) (s : State) : busRead s a = (s.mem.read a.toNat, s) := by
  simp only [busRead, busValue, busReadEffect, busDecode_of_rom h]

theorem busWrite_of_rom {a : Word} (h : a.toNat < 0x8000) (s : State) (v : Byte) : busWrite s a v = s := by
  simp only [busWrite, busDecode_of_rom h]

theorem busRead_of_vram {a : Word} (h : 0x8000 ≤ a.toNat ∧ a.toNat < 0xA000) (s : State) :
    busRead s a = (if s.ppu.mode = .drawing then 0xFF#8 else s.mem.read a.toNat, s) := by
  simp only [busRead, busValue, busReadEffect, busDecode_of_vram h]

/-- Work RAM, OAM and high RAM are read in every mode (20 R99, R101, R109). -/
theorem busRead_of_plainRam {a : Word} (h : (0xC000 ≤ a.toNat ∧ a.toNat < 0xE000) ∨
    (0xFE00 ≤ a.toNat ∧ a.toNat < 0xFEA0) ∨ (0xFF80 ≤ a.toNat ∧ a.toNat < 0xFFFF)) (s : State) :
    busRead s a = (s.mem.read a.toNat, s) := by
  obtain hw | ho | hh := h
  · simp only [busRead, busValue, busReadEffect, busDecode_of_wram hw]
  · simp only [busRead, busValue, busReadEffect, busDecode_of_oam ho]
  · simp only [busRead, busValue, busReadEffect, busDecode_of_hram hh]

/-- An echo address and the work RAM address 0x2000 below it are one byte (20 R100). -/
theorem busDecode_echo {a : Word} (h : 0xE000 ≤ a.toNat ∧ a.toNat < 0xFE00) :
    busDecode a = busDecode (a - 0x2000#16) := by
  have hbelow : (a - 0x2000#16).toNat = a.toNat - 0x2000 := by bv_omega
  rw [busDecode_of_echo h, busDecode_of_wram (by omega), hbelow]

/-- Two addresses of one byte of work RAM are accessed alike. -/
theorem bus_congr_of_wram {a b : Word} {k : Nat} (ha : busDecode a = .wram k) (hb : busDecode b = .wram k) (s : State)
    (v : Byte) : busRead s a = busRead s b ∧ busWrite s a v = busWrite s b v := by
  simp only [busRead, busValue, busReadEffect, busWrite, ha, hb, and_self]

/-- A write to RAM changes the one byte, which then holds the value. -/
theorem busWrite_of_storesAt {a : Word} {k : Nat} (h : StoresAt a k) (s : State) (v : Byte) :
    { busWrite s a v with mem := s.mem } = s ∧
      (∀ j, j ≠ k → (busWrite s a v).mem.read j = s.mem.read j) ∧
      (s.mem.wf = true → (busWrite s a v).mem.read k = v) := by
  rw [busWrite_of_ramKey (ramKey_of_storesAt h)]
  exact ⟨rfl, fun j hj => Memory.read_write_ne _ _ _ _ hj,
    fun hwf => Memory.read_write_self _ _ _ hwf (backed_of_storesAt h)⟩

/-- Settles O2: each region by its unit, and a write to RAM by the laws of memory. -/
theorem storageRegionsReadAndWrite : Obligations.StorageRegionsReadAndWrite := by
  intro s a v
  refine ⟨fun h => ⟨busRead_of_rom h s, busWrite_of_rom h s v⟩, fun h => busRead_of_vram h s,
    fun h => busRead_of_plainRam h s, fun h => ?_, fun k h => busWrite_of_storesAt h s v⟩
  have hecho := busDecode_of_echo h
  exact bus_congr_of_wram hecho ((busDecode_echo h).symm.trans hecho) s v

/-! ## Registers of the I/O page -/

/-- The five ones and TAC's two fields (10 R50). -/
theorem tacByte_eq_or (t : Timer) : t.tacByte =
    0xF8#8 ||| ((BitVec.ofBool t.tacEnable).setWidth 8 <<< 2) ||| t.tacSelect.setWidth 8 := by
  have hbits : ∀ (e : Bool) (sel : BitVec 2), (0b11111#5 ++ BitVec.ofBool e ++ sel : Byte) =
      0xF8#8 ||| ((BitVec.ofBool e).setWidth 8 <<< 2) ||| sel.setWidth 8 := by decide
  exact hbits t.tacEnable t.tacSelect

/-- A mask of five interrupts reads with ones above it (10 R43, R44). -/
theorem maskByte_eq_or (m : BitVec 5) : (0b111#3 ++ m : Byte) = 0xE0#8 ||| m.setWidth 8 := by
  have hmasks : ∀ m : BitVec 5, (0b111#3 ++ m : Byte) = 0xE0#8 ||| m.setWidth 8 := by decide
  exact hmasks m

theorem and_mask_setWidth (v : Byte) : (v &&& 0x1F#8).setWidth 5 = v.extractLsb' 0 5 := by
  rw [BitVec.setWidth_and, show (0x1F#8).setWidth 5 = BitVec.allOnes 5 from rfl, BitVec.and_allOnes,
    BitVec.setWidth_eq_extractLsb' (by omega)]

/-- Settles O4: each register's unit, and TAC, IF and IE bit by bit. -/
theorem ioRegistersReadAndWrite : Obligations.IoRegistersReadAndWrite := by
  intro s v
  rw [← hiByte_eq_ofNat, ← tacByte_eq_or, ← maskByte_eq_or, ← maskByte_eq_or, and_mask_setWidth,
    BitVec.setWidth_eq_extractLsb' (x := v) (by omega)]
  exact ⟨⟨rfl, rfl⟩, ⟨rfl, rfl⟩, ⟨rfl, rfl⟩, ⟨rfl, rfl⟩, ⟨rfl, rfl⟩, ⟨rfl, rfl⟩, ⟨rfl, rfl⟩, ⟨rfl, rfl⟩, ⟨rfl, rfl⟩,
    ⟨rfl, rfl⟩, ⟨rfl, rfl⟩, rfl, ⟨rfl, rfl⟩, ⟨rfl, rfl⟩⟩

/-! ## Absorbed accesses -/

theorem busRead_of_unmapped {a : Word} (h : busDecode a = .unmapped) (s : State) :
    busRead s a = (0xFF#8, s.report (.unmappedRead a)) := by
  simp only [busRead, busValue, busReadEffect, h]

theorem busWrite_of_unmapped {a : Word} (h : busDecode a = .unmapped) (s : State) (v : Byte) :
    busWrite s a v = s.report (.unmappedWrite a v) := by
  simp only [busWrite, h]

theorem busWrite_dma (s : State) (v : Byte) : busWrite s 0xFF46#16 v = dmaRequest s v := rfl

/-- While the PPU uses OAM a request is refused (20 R112). -/
theorem dmaRequest_of_busy {s : State} (h : s.ppu.mode = .oamScan ∨ s.ppu.mode = .drawing) (v : Byte) :
    dmaRequest s v = s.report (.dmaRefused v) := by
  obtain h | h := h <;> simp only [dmaRequest, h]

theorem dmaRequest_of_blank {s : State} (h : s.ppu.mode = .hBlank ∨ s.ppu.mode = .vBlank) (v : Byte) :
    dmaRequest s v = dmaCopy v 160 0 s := by
  obtain h | h := h <;> simp only [dmaRequest, h]

/-- Settles O5: the unmapped addresses have no unit, and a refused request is a report. -/
theorem absorbedAccessesOnlyReport : Obligations.AbsorbedAccessesOnlyReport := by
  intro s a v
  refine ⟨fun h => ?_, fun h => (busWrite_dma s v).trans (dmaRequest_of_busy h v)⟩
  have hunit := busDecode_of_unmapped h
  exact ⟨busRead_of_unmapped hunit s, busWrite_of_unmapped hunit s v⟩

/-! ## What a write leaves alone -/

/-- A write changes no byte but those it may store to. -/
theorem busWrite_read_of_not_mayStore {s : State} {a : Word} {k : Nat} (h : ¬ MayStore s a k) (v : Byte) :
    (busWrite s a v).mem.read k = s.mem.read k := by
  have hkey : (busDecode a).ramKey ≠ some k := fun hk => h (.inl (storesAt_of_ramKey hk))
  by_cases hdma : busDecode a = .dma
  · have ha : a = 0xFF46#16 := BitVec.eq_of_toNat_eq (busDecode_dma a hdma)
    subst ha
    by_cases hbusy : s.ppu.mode = .oamScan ∨ s.ppu.mode = .drawing
    · rw [busWrite_dma, dmaRequest_of_busy hbusy]
      rfl
    · obtain ⟨hscan, hdraw⟩ := not_or.mp hbusy
      have hout : ¬ (0xFE00 ≤ k ∧ k < 0xFEA0) := fun hk => h (.inr ⟨rfl, hscan, hdraw, hk⟩)
      exact busWrite_read_ne s _ v k nofun nofun nofun nofun (fun _ => by omega)
  · refine busWrite_read_ne s a v k ?_ ?_ ?_ ?_ (fun hd => absurd hd hdma)
    all_goals exact fun hd => hkey (by rw [hd]; rfl)

/-- Settles O3: no unit's write reaches the CPU, the parameters, the sequencer or the PPU's position. -/
theorem busWriteFrame : Obligations.BusWriteFrame := by
  intro s a v
  exact ⟨busWrite_cpu s a v, busWrite_cfg s a v, busWrite_fb s a v, busWrite_mode s a v, busWrite_dot s a v,
    busWrite_line s a v, busWrite_x s a v, busWrite_slots s a v, busWrite_dispatch s a v,
    fun k hk => busWrite_read_of_not_mayStore hk v⟩

/-! ## The OAM copy -/

/-- Source `i` of a copy from `page` (20 R113). -/
def dmaSource (page : Byte) (i : Nat) : Word := BitVec.ofNat 16 (256 * page.toNat + i)

theorem dmaSource_toNat {page : Byte} {i : Nat} (h : i < 160) : (dmaSource page i).toNat = 256 * page.toNat + i := by
  have hp := page.isLt
  rw [dmaSource, BitVec.toNat_ofNat]
  omega

theorem joinBytes_add_eq_dmaSource (page : Byte) (i : Nat) :
    joinBytes page 0#8 + BitVec.ofNat 16 i = dmaSource page i := by
  refine BitVec.eq_of_toNat_eq ?_
  simp [dmaSource, joinBytes_toNat]

/-- The state after byte `i` has been copied. -/
def dmaByte (page : Byte) (i : Nat) (s : State) : State :=
  { busReadEffect s (dmaSource page i) with mem := s.mem.write (0xFE00 + i) (busValue s (dmaSource page i)) }

theorem dmaCopy_succ (page : Byte) (n i : Nat) (s : State) :
    dmaCopy page (n + 1) i s = dmaCopy page n (i + 1) (dmaByte page i s) := by
  rw [dmaCopy]
  simp only [busRead, joinBytes_add_eq_dmaSource, busReadEffect_mem]
  rfl

@[simp] theorem dmaByte_ppu (page : Byte) (i : Nat) (s : State) : (dmaByte page i s).ppu = s.ppu :=
  busReadEffect_ppu s _
@[simp] theorem dmaByte_timer (page : Byte) (i : Nat) (s : State) : (dmaByte page i s).timer = s.timer :=
  busReadEffect_timer s _
@[simp] theorem dmaByte_irq (page : Byte) (i : Nat) (s : State) : (dmaByte page i s).irq = s.irq :=
  busReadEffect_irq s _

/-- A copied byte is no later byte's source: of OAM only the byte itself is (page 0xFE), and the joypad port is the
first source of its page. -/
theorem busValue_dmaByte {page : Byte} {i j : Nat} (hij : i < j) (hj : j < 160) (s : State) :
    busValue (dmaByte page i s) (dmaSource page j) = busValue s (dmaSource page j) := by
  have hsrc := dmaSource_toNat (page := page) hj
  have hrange := busDecode_range (dmaSource page j)
  unfold busValue
  cases hd : busDecode (dmaSource page j) <;> simp only [hd, unitRange] at hrange
  case rom k | vram k | wram k | hram k | oam k =>
    have hread : (dmaByte page i s).mem.read k = s.mem.read k := Memory.read_write_ne _ _ _ _ (by omega)
    simp only [hread, dmaByte_ppu]
  case joypad => omega
  all_goals simp only [dmaByte_ppu, dmaByte_timer, dmaByte_irq]

theorem dmaByte_wf (page : Byte) (i : Nat) {s : State} (h : s.mem.wf = true) : (dmaByte page i s).mem.wf = true :=
  Memory.write_wf _ _ _ h

/-- Each byte of OAM becomes what its source read before the copy. -/
theorem dmaCopy_read (page : Byte) (n i : Nat) {s : State} (hwf : s.mem.wf = true) (hn : i + n ≤ 160) {j : Nat}
    (hj : i ≤ j ∧ j < i + n) : (dmaCopy page n i s).mem.read (0xFE00 + j) = busValue s (dmaSource page j) := by
  induction n generalizing i s with
  | zero => omega
  | succ n ih =>
    rw [dmaCopy_succ]
    by_cases hji : j = i
    · subst hji
      rw [dmaCopy_read_ne _ _ _ _ _ (by omega)]
      exact Memory.read_write_self _ _ _ hwf ((backed_iff _).mpr (by omega))
    · rw [ih (i + 1) (dmaByte_wf page i hwf) (by omega) (by omega), busValue_dmaByte (by omega) (by omega)]

/-- What a read of `a` tells the diagnostics channel (20 R108). -/
def readReport (a : Word) : Option Report := if busDecode a = .unmapped then some (.unmappedRead a) else none

theorem busReadEffect_diag (s : State) (a : Word) :
    (busReadEffect s a).io.diag = (readReport a).toList ++ s.io.diag := by
  unfold busReadEffect readReport
  split <;> simp_all

theorem dmaCopy_diag (page : Byte) (n i : Nat) (s : State) : (dmaCopy page n i s).io.diag =
    (((List.range' i n).map (dmaSource page)).filterMap readReport).reverse ++ s.io.diag := by
  induction n generalizing i s with
  | zero => rfl
  | succ n ih =>
    have hbyte : (dmaByte page i s).io.diag = (readReport (dmaSource page i)).toList ++ s.io.diag :=
      busReadEffect_diag s (dmaSource page i)
    rw [dmaCopy_succ, ih, hbyte, List.range'_succ, List.map_cons, List.filterMap_cons]
    cases readReport (dmaSource page i) <;> simp

/-- A copy changes memory and the traces alone. -/
theorem dmaCopy_frame (page : Byte) (n i : Nat) (s : State) :
    { dmaCopy page n i s with mem := s.mem, io := s.io } = s := by
  simp only [dmaCopy_cpu, dmaCopy_irq, dmaCopy_timer, dmaCopy_ppu, dmaCopy_cfg]

/-- Settles O6: byte by byte, no copied byte is a source still to be read. -/
theorem dmaCopiesOnePage : Obligations.DmaCopiesOnePage := by
  intro s v hwf hmode
  rw [busWrite_dma, dmaRequest_of_blank hmode]
  refine ⟨fun i hi => dmaCopy_read v 160 0 hwf (by omega) (by omega),
    fun k hk => dmaCopy_read_ne v 160 0 s k (by omega), ?_, dmaCopy_joypadWrites v 160 0 s, dmaCopy_frame v 160 0 s⟩
  rw [dmaCopy_diag, List.range_eq_range']
  rfl

end Sys2Proof.Machine
end

section
/-! SUPPORT. The instructions of the extended space and the meanings their second bytes select
(spec/40_cpu_step_and_control.md R186; 45_rotates_shifts_bits.md R294). -/

namespace Sys2Proof.Machine

/-- An extended instruction, and the state it makes of `s`. -/
inductive ExtendedForm (s : State) : Instr → State → Prop where
  | rotReg (op : RotOp) (r : Reg8) : ExtendedForm s (.mkRotReg op r) (rotReg op r s)
  | rotHl (op : RotOp) : ExtendedForm s (.mkRotHl op) (rotHl op s)
  | bitReg (b : Fin 8) (r : Reg8) : ExtendedForm s (.mkBitReg b r) (bitTestReg b r s)
  | bitHl (b : Fin 8) : ExtendedForm s (.mkBitHl b) (bitTestHl b s)
  | resReg (b : Fin 8) (r : Reg8) : ExtendedForm s (.mkResReg b r) (bitResetReg b r s)
  | resHl (b : Fin 8) : ExtendedForm s (.mkResHl b) (bitResetHl b s)
  | setReg (b : Fin 8) (r : Reg8) : ExtendedForm s (.mkSetReg b r) (bitSetReg b r s)
  | setHl (b : Fin 8) : ExtendedForm s (.mkSetHl b) (bitSetHl b s)

/-- The row of 0xCB alone and the decoder read the second byte alike. -/
theorem extendedForm_decodeExtended (op2 : Byte) (s : State) :
    ExtendedForm s (decodeExtended op2) (extendedOp op2 s) := by
  unfold decodeExtended extendedOp
  dsimp only
  generalize bitField op2 6 2 = x
  generalize operand8 (bitField op2 0 3) = o
  match x, o with
  | 0, .reg r => exact .rotReg _ r
  | 0, .indHl => exact .rotHl _
  | 1, .reg r => exact .bitReg _ r
  | 1, .indHl => exact .bitHl _
  | 2, .reg r => exact .resReg _ r
  | 2, .indHl => exact .resHl _
  | _ + 3, .reg r => exact .setReg _ r
  | _ + 3, .indHl => exact .setHl _

theorem ExtendedForm.exec_eq {s t : State} {i : Instr} (h : ExtendedForm s i t) : exec i s = .next t := by
  cases h with
  | rotReg op r => exact exec_mkRotReg op r s
  | rotHl op => exact exec_mkRotHl op s
  | bitReg b r => exact exec_mkBitReg b r s
  | bitHl b => exact exec_mkBitHl b s
  | resReg b r => exact exec_mkResReg b r s
  | resHl b => exact exec_mkResHl b s
  | setReg b r => exact exec_mkSetReg b r s
  | setHl b => exact exec_mkSetHl b s

end Sys2Proof.Machine
end

section
/-! PROOFS. The memory frame of the instructions (spec/20_memory.md R120): the bus is written at no address but
those `Rules.WritesAt` lists. -/

namespace Sys2Proof.Machine

open Sys2Proof.Rules

/-- The states an instruction can lead to from `s` if it writes the bus at addresses of `l` alone. -/
inductive WritesOnly (l : List Word) (s : State) : State → Prop where
  | refl : WritesOnly l s s
  | read {u : State} (a : Word) (h : WritesOnly l s u) : WritesOnly l s (busReadEffect u a)
  | write {u : State} {a : Word} (ha : a ∈ l) (v : Byte) (h : WritesOnly l s u) : WritesOnly l s (busWrite u a v)
  | cpu {u : State} (c : Cpu) (h : WritesOnly l s u) : WritesOnly l s { u with cpu := c }
  | report {u : State} (r : Report) (h : WritesOnly l s u) : WritesOnly l s (u.report r)

/-! ## What such moves keep -/

theorem WritesOnly.reaches {l : List Word} {s t : State} (h : WritesOnly l s t) : Reaches s t := by
  induction h with
  | refl => exact .refl
  | read a _ ih => exact .read a ih
  | write _ v _ ih => exact .write _ v ih
  | cpu c _ ih => exact .cpu c ih
  | report r _ ih => exact .report r ih

/-- Where a write may store depends on the PPU's mode alone (20 R112). -/
theorem mayStore_congr {s u : State} (h : u.ppu.mode = s.ppu.mode) (a : Word) (k : Nat) :
    MayStore u a k ↔ MayStore s a k := by
  unfold MayStore
  rw [h]

theorem WritesOnly.mem_read_eq {l : List Word} {s t : State} (h : WritesOnly l s t) {k : Nat}
    (hk : ∀ a ∈ l, ¬ MayStore s a k) : t.mem.read k = s.mem.read k := by
  induction h with
  | refl => rfl
  | read a _ ih => rw [busReadEffect_mem, ih]
  | write ha v hu ih =>
    have hfree := (not_congr (mayStore_congr hu.reaches.mode_eq _ k)).mpr (hk _ ha)
    rw [busWrite_read_of_not_mayStore hfree, ih]
  | cpu c _ ih => exact ih
  | report r _ ih => exact ih

/-- With no write, memory and every unit outside the CPU stay, and the joypad trace with them. -/
theorem WritesOnly.units_eq {s t : State} (h : WritesOnly [] s t) :
    t.mem = s.mem ∧ t.irq = s.irq ∧ t.ppu = s.ppu ∧ t.timer = s.timer ∧ t.io.joypadWrites = s.io.joypadWrites := by
  induction h with
  | refl => exact ⟨rfl, rfl, rfl, rfl, rfl⟩
  | read a _ ih => simpa using ih
  | write ha => exact absurd ha List.not_mem_nil
  | cpu c _ ih => exact ih
  | report r _ ih => exact ih

/-! ## The steps that instructions share -/

theorem WritesOnly.advance {l : List Word} {s u : State} (h : WritesOnly l s u) (len : Word) (n : Nat) :
    WritesOnly l s (u.advance len n) := .cpu _ h

theorem WritesOnly.jump {l : List Word} {s u : State} (h : WritesOnly l s u) (target : Word) (n : Nat) :
    WritesOnly l s (u.jump target n) := .cpu _ h

theorem WritesOnly.push16 {s : State} (v : Word) : WritesOnly [s.cpu.sp - 1#16, s.cpu.sp - 2#16] s (push16 s v) := by
  rw [push16_eq]
  exact .cpu _ (.write (by simp) _ (.write (by simp) _ .refl))

theorem WritesOnly.pop16 (l : List Word) (s : State) : WritesOnly l s (pop16 s).2 := by
  rw [pop16_eq]
  exact .cpu _ (.read _ (.read _ .refl))

theorem condHolds_iff (cc : Cond) (f : Flags) : condHolds cc f = true ↔ Holds cc f := by
  cases cc <;> simp [condHolds, Holds]

/-! ## The instructions that write the bus -/

/-- A read of `(HL)`, then a write of it: both at HL (45 R294). -/
theorem WritesOnly.rewriteHl {s : State} (v : Byte) : WritesOnly [s.cpu.hl] s (writeHl (readHl s).2 v) := by
  have hhl : s.cpu.hl ∈ [s.cpu.hl] := by simp
  simpa [readHl, writeHl] using WritesOnly.write hhl v (.read s.cpu.hl .refl)

theorem WritesOnly.storeA {s : State} (ea len : Word) (n : Nat) : WritesOnly [ea] s (storeA ea len n s) :=
  (WritesOnly.write (by simp) _ .refl).advance _ _

theorem WritesOnly.storeAStep {s : State} (delta : Word) : WritesOnly [s.cpu.hl] s (storeAStep delta s) :=
  (WritesOnly.cpu _ (.write (by simp) _ .refl)).advance _ _

/-- An instruction with listed writes makes no other. -/
theorem exec_writesOnly {s : State} {i : Instr} {l : List Word} (h : WritesAt s i l) :
    ∃ t, exec i s = .next t ∧ WritesOnly l s t := by
  induction h with
  | ldToHl src => exact ⟨_, exec_mkLdToHl src s, (WritesOnly.write (by simp) _ .refl).advance _ _⟩
  | ldIndHlN8 n => exact ⟨_, exec_ldIndHlN8 n s, (WritesOnly.write (by simp) _ .refl).advance _ _⟩
  | ldIndBcA => exact ⟨_, exec_ldIndBcA s, .storeA _ _ _⟩
  | ldIndDeA => exact ⟨_, exec_ldIndDeA s, .storeA _ _ _⟩
  | ldIndN16A nn => exact ⟨_, exec_ldIndN16A nn s, .storeA _ _ _⟩
  | ldhIndCA => exact ⟨_, exec_ldhIndCA s, .storeA _ _ _⟩
  | ldhIndN8A n => exact ⟨_, exec_ldhIndN8A n s, .storeA _ _ _⟩
  | ldIndHlDecA => exact ⟨_, exec_ldIndHlDecA s, .storeAStep _⟩
  | ldIndHlIncA => exact ⟨_, exec_ldIndHlIncA s, .storeAStep _⟩
  | ldIndN16Sp nn =>
    exact ⟨_, exec_ldIndN16Sp nn s, (WritesOnly.write (by simp) _ (.write (by simp) _ .refl)).advance _ _⟩
  | incIndHl => exact ⟨_, exec_incIndHl s, (WritesOnly.cpu _ (.rewriteHl _)).advance _ _⟩
  | decIndHl => exact ⟨_, exec_decIndHl s, (WritesOnly.cpu _ (.rewriteHl _)).advance _ _⟩
  | rotHl op => exact ⟨_, exec_mkRotHl op s, (WritesOnly.cpu _ (.rewriteHl _)).advance _ _⟩
  | resHl b => exact ⟨_, exec_mkResHl b s, (WritesOnly.rewriteHl _).advance _ _⟩
  | setHl b => exact ⟨_, exec_mkSetHl b s, (WritesOnly.rewriteHl _).advance _ _⟩
  | push p => exact ⟨_, exec_mkPush p s, (WritesOnly.push16 _).advance _ _⟩
  | call nn => exact ⟨_, exec_callN16 nn s, (WritesOnly.push16 _).jump _ _⟩
  | callIf nn cc hc =>
    have htaken : callIf cc nn s = callTo nn s := if_pos ((condHolds_iff cc _).mpr hc)
    exact ⟨_, (exec_mkCall nn cc s).trans (congrArg _ htaken), (WritesOnly.push16 _).jump _ _⟩
  | rst y => exact ⟨_, exec_mkRst y s, (WritesOnly.push16 _).jump _ _⟩
  | prefixed op2 l _ ih =>
    obtain ⟨t, ht, hwrites⟩ := ih
    rw [(extendedForm_decodeExtended op2 s).exec_eq] at ht
    exact ⟨t, (exec_prefixCb op2 s).trans ht, hwrites⟩

/-! ## The instructions that do not -/

theorem WritesOnly.loadA (ea len : Word) (n : Nat) (s : State) : WritesOnly [] s (loadA ea len n s) :=
  (WritesOnly.cpu _ (.read _ .refl)).advance _ _

theorem WritesOnly.loadAStep (delta : Word) (s : State) : WritesOnly [] s (loadAStep delta s) :=
  (WritesOnly.cpu _ (.cpu _ (.read _ .refl))).advance _ _

theorem WritesOnly.haltOp (s : State) : WritesOnly [] s (haltOp s) := by
  unfold Machine.haltOp
  split <;> exact (WritesOnly.cpu _ .refl).advance _ _

theorem WritesOnly.jumpIf (cc : Cond) (nn : Word) (s : State) : WritesOnly [] s (jumpIf cc nn s) := by
  unfold Machine.jumpIf
  split
  · exact WritesOnly.refl.jump _ _
  · exact WritesOnly.refl.advance _ _

theorem WritesOnly.jumpRelIf (cc : Cond) (e : Byte) (s : State) : WritesOnly [] s (jumpRelIf cc e s) := by
  unfold Machine.jumpRelIf
  split
  · exact WritesOnly.refl.jump _ _
  · exact WritesOnly.refl.advance _ _

theorem WritesOnly.returnIf (cc : Cond) (s : State) : WritesOnly [] s (returnIf cc s) := by
  unfold Machine.returnIf
  split
  · exact (WritesOnly.pop16 _ _).jump _ _
  · exact WritesOnly.refl.advance _ _

theorem WritesOnly.undefinedOp (op : Byte) (s : State) : WritesOnly [] s (undefinedOp op s) :=
  (WritesOnly.report _ .refl).advance _ _

/-- An extended instruction with no listed write makes none. -/
theorem ExtendedForm.quiet {s t : State} {i : Instr} (h : ExtendedForm s i t) (hnone : ∀ l, ¬ WritesAt s i l) :
    WritesOnly [] s t := by
  cases h with
  | rotHl op => exact absurd (.rotHl op) (hnone _)
  | resHl b => exact absurd (.resHl b) (hnone _)
  | setHl b => exact absurd (.setHl b) (hnone _)
  | rotReg op r => exact (WritesOnly.cpu _ .refl).advance _ _
  | bitReg b r => exact (WritesOnly.cpu _ .refl).advance _ _
  | bitHl b => exact (WritesOnly.cpu _ (.read _ .refl)).advance _ _
  | resReg b r => exact (WritesOnly.cpu _ .refl).advance _ _
  | setReg b r => exact (WritesOnly.cpu _ .refl).advance _ _

theorem ExtendedForm.exec_quiet {s t : State} {i : Instr} (h : ExtendedForm s i t) (hnone : ∀ l, ¬ WritesAt s i l) :
    ∃ t, exec i s = .next t ∧ WritesOnly [] s t := ⟨t, h.exec_eq, h.quiet hnone⟩

/-- Any other instruction writes nothing; STOP alone resets the counter. -/
theorem exec_quiet {s : State} {i : Instr} (hnone : ∀ l, ¬ WritesAt s i l) (hstop : i ≠ .stop) :
    ∃ t, exec i s = .next t ∧ WritesOnly [] s t := by
  cases i.kind with
  | stop => exact absurd rfl hstop
  | ldToHl src => exact absurd (.ldToHl src) (hnone _)
  | ldIndHlN8 n => exact absurd (.ldIndHlN8 n) (hnone _)
  | ldIndBcA => exact absurd .ldIndBcA (hnone _)
  | ldIndDeA => exact absurd .ldIndDeA (hnone _)
  | ldIndN16A nn => exact absurd (.ldIndN16A nn) (hnone _)
  | ldhIndCA => exact absurd .ldhIndCA (hnone _)
  | ldhIndN8A n => exact absurd (.ldhIndN8A n) (hnone _)
  | ldIndHlDecA => exact absurd .ldIndHlDecA (hnone _)
  | ldIndHlIncA => exact absurd .ldIndHlIncA (hnone _)
  | ldIndN16Sp nn => exact absurd (.ldIndN16Sp nn) (hnone _)
  | incIndHl => exact absurd .incIndHl (hnone _)
  | decIndHl => exact absurd .decIndHl (hnone _)
  | push p => exact absurd (.push p) (hnone _)
  | callN16 nn => exact absurd (.call nn) (hnone _)
  | rst y => exact absurd (.rst y) (hnone _)
  | callIf nn cc =>
    have hnot : ¬ Holds cc s.cpu.flags := fun hc => hnone _ (.callIf nn cc hc)
    have hfall : callIf cc nn s = s.advance 3#16 12 := if_neg ((not_congr (condHolds_iff cc _)).mpr hnot)
    exact ⟨_, (exec_mkCall nn cc s).trans (congrArg _ hfall), WritesOnly.refl.advance _ _⟩
  | rotReg op r => exact (ExtendedForm.rotReg op r).exec_quiet hnone
  | rotHl op => exact (ExtendedForm.rotHl op).exec_quiet hnone
  | bitReg b r => exact (ExtendedForm.bitReg b r).exec_quiet hnone
  | bitHl b => exact (ExtendedForm.bitHl b).exec_quiet hnone
  | resReg b r => exact (ExtendedForm.resReg b r).exec_quiet hnone
  | resHl b => exact (ExtendedForm.resHl b).exec_quiet hnone
  | setReg b r => exact (ExtendedForm.setReg b r).exec_quiet hnone
  | setHl b => exact (ExtendedForm.setHl b).exec_quiet hnone
  | prefixCb op2 =>
    exact ⟨_, exec_prefixCb op2 s,
      (extendedForm_decodeExtended op2 s).quiet (fun l hl => hnone l (.prefixed op2 l hl))⟩
  | ldReg dst src => exact ⟨_, exec_mkLdReg dst src s, (WritesOnly.cpu _ .refl).advance _ _⟩
  | ldImm n dst => exact ⟨_, exec_mkLdImm n dst s, (WritesOnly.cpu _ .refl).advance _ _⟩
  | inc r => exact ⟨_, exec_mkInc r s, (WritesOnly.cpu _ .refl).advance _ _⟩
  | dec r => exact ⟨_, exec_mkDec r s, (WritesOnly.cpu _ .refl).advance _ _⟩
  | aluReg op r => exact ⟨_, exec_mkAluReg op r s, (WritesOnly.cpu _ .refl).advance _ _⟩
  | aluImm n op => exact ⟨_, exec_mkAluImm n op s, (WritesOnly.cpu _ .refl).advance _ _⟩
  | ldPair nn p => exact ⟨_, exec_mkLdPair nn p s, (WritesOnly.cpu _ .refl).advance _ _⟩
  | addHl p => exact ⟨_, exec_mkAddHl p s, (WritesOnly.cpu _ .refl).advance _ _⟩
  | incPair p => exact ⟨_, exec_mkIncPair p s, (WritesOnly.cpu _ .refl).advance _ _⟩
  | decPair p => exact ⟨_, exec_mkDecPair p s, (WritesOnly.cpu _ .refl).advance _ _⟩
  | rlca | rrca | rla | rra | daa | cpl | scf | ccf | addSpOff | ldHlSpOff | ldSpHl | di | ei =>
    exact ⟨_, rfl, (WritesOnly.cpu _ .refl).advance _ _⟩
  | halt => exact ⟨_, exec_halt s, .haltOp s⟩
  | nop => exact ⟨_, exec_nop s, WritesOnly.refl.advance _ _⟩
  | ldFromHl dst => exact ⟨_, exec_mkLdFromHl dst s, (WritesOnly.cpu _ (.read _ .refl)).advance _ _⟩
  | aluHl op => exact ⟨_, exec_mkAluHl op s, (WritesOnly.cpu _ (.read _ .refl)).advance _ _⟩
  | ldAIndBc | ldAIndDe | ldAIndN16 | ldhAIndN8 | ldhAIndC => exact ⟨_, rfl, .loadA _ _ _ s⟩
  | ldAIndHlInc | ldAIndHlDec => exact ⟨_, rfl, .loadAStep _ s⟩
  | pop p => exact ⟨_, exec_mkPop p s, (WritesOnly.cpu _ (.pop16 _ _)).advance _ _⟩
  | jrOff | jpN16 | jpHl => exact ⟨_, rfl, WritesOnly.refl.jump _ _⟩
  | jrIf e cc => exact ⟨_, exec_mkJr e cc s, .jumpRelIf cc e s⟩
  | jpIf nn cc => exact ⟨_, exec_mkJp nn cc s, .jumpIf cc nn s⟩
  | ret => exact ⟨_, exec_ret s, (WritesOnly.pop16 _ _).jump _ _⟩
  | retIf cc => exact ⟨_, exec_mkRet cc s, .returnIf cc s⟩
  | reti => exact ⟨_, exec_reti s, (WritesOnly.cpu _ (.pop16 _ _)).jump _ _⟩
  | undefinedD3 | undefinedDb | undefinedDd | undefinedE3 | undefinedE4 | undefinedEb | undefinedEc
  | undefinedEd | undefinedF4 | undefinedFc | undefinedFd =>
    exact ⟨_, rfl, .undefinedOp _ s⟩

/-- Settles O54: the writes are at the listed addresses, and with none listed nothing but the CPU, the traces of
reads and reports and STOP's counter moves. -/
theorem memoryChangesOnlyWhereAnInstructionWrites : Obligations.MemoryChangesOnlyWhereAnInstructionWrites := by
  intro i s t h
  constructor
  · intro l hl k hk
    obtain ⟨u, hu, hwrites⟩ := exec_writesOnly hl
    obtain rfl : t = u := Host.Outcome.next.inj (h.symm.trans hu)
    exact hwrites.mem_read_eq hk
  · intro hnone
    by_cases hstop : i = .stop
    · subst hstop
      obtain rfl : t = stopOp s := Host.Outcome.next.inj (h.symm.trans (exec_stop s))
      exact ⟨rfl, rfl, rfl, fun hne => absurd rfl hne, rfl⟩
    · obtain ⟨u, hu, hquiet⟩ := exec_quiet hnone hstop
      obtain rfl : t = u := Host.Outcome.next.inj (h.symm.trans hu)
      obtain ⟨hmem, hirq, hppu, htimer, hjoypad⟩ := hquiet.units_eq
      exact ⟨hmem, hirq, hppu, fun _ => htimer, hjoypad⟩

end Sys2Proof.Machine
end

section
/-! SUPPORT. Encoding and decoding (spec/30_encoding.md R140 to R159): an opcode by its fields x, y, z, the bytes that
the decoded instruction encodes, and what the decoder reads of a list of bytes. -/

namespace Sys2Proof.Machine

/-! ## The fields of an opcode -/

/-- The byte of the fields x, y, z (30 R142). -/
def opcode (x y z : Nat) : Byte := BitVec.ofNat 8 (64 * x + 8 * y + z)

/-- The field y of an opcode. -/
def fieldY (op : Byte) : Fin 8 := ⟨bitField op 3 3, Nat.mod_lt _ (by decide)⟩

/-- The field z of an opcode. -/
def fieldZ (op : Byte) : Fin 8 := ⟨bitField op 0 3, Nat.mod_lt _ (by decide)⟩

theorem bitField_two_lt (op : Byte) (lo : Nat) : bitField op lo 2 < 4 := Nat.mod_lt _ (by decide)

theorem opcode_fields {op : Byte} {x : Nat} (hx : bitField op 6 2 = x) : opcode x (fieldY op) (fieldZ op) = op := by
  subst hx
  have hop := op.isLt
  apply BitVec.eq_of_toNat_eq
  simp only [opcode, fieldY, fieldZ, bitField, BitVec.toNat_ofNat]
  omega

theorem operandBytes_le_two (op : Byte) : operandBytes op ≤ 2 := by
  unfold operandBytes
  dsimp only
  repeat' split
  all_goals omega

theorem loByte_joinBytes (hi lo : Byte) : loByte (joinBytes hi lo) = lo := by
  apply BitVec.eq_of_toNat_eq
  rw [loByte_eq_ofNat, joinBytes_toNat, BitVec.toNat_ofNat]
  omega

theorem hiByte_joinBytes (hi lo : Byte) : hiByte (joinBytes hi lo) = hi := by
  apply BitVec.eq_of_toNat_eq
  rw [hiByte_eq_ofNat, joinBytes_toNat, BitVec.toNat_ofNat]
  omega

/-! ## What a decoded instruction encodes -/

/-- `i` is a well-formed instruction and `bytes` is its encoding. -/
structure EncodesTo (i : Instr) (bytes : List Byte) : Prop where
  wellFormed : i.wellFormed = true
  encode_eq : encode i = bytes

/-- The bytes the machine reads of an instruction with the opcode `op` that the bytes `b1`, `b2` follow. -/
def readOf (op b1 b2 : Byte) : List Byte := op :: [b1, b2].take (operandBytes op)

theorem readOf_append_drop (op b1 b2 : Byte) :
    readOf op b1 b2 ++ [b1, b2].drop (operandBytes op) = [op, b1, b2] := by
  rw [readOf, List.cons_append, List.take_append_drop]

theorem readOf_length_le (op b1 b2 : Byte) : (readOf op b1 b2).length ≤ 3 :=
  Nat.succ_le_succ (List.length_take_le' _ _)

/-- STOP's padding byte (30 R143), which its encoding has and the machine does not read. -/
def padding (op : Byte) : List Byte := if op = 0x10#8 then [0x00#8] else []

theorem EncodesTo.encode_eq_of_ne_stop {i : Instr} {op : Byte} {bytes : List Byte}
    (h : EncodesTo i (bytes ++ padding op)) (hne : op ≠ 0x10#8) : encode i = bytes := by
  rw [h.encode_eq, padding, if_neg hne, List.append_nil]

/-- 30 R150, and in the lemmas below R151 to R153: each opcode of the quadrant, by its fields y and z. -/
theorem decodeX0_encodesTo (y z : Fin 8) (nn : Word) : EncodesTo (decodeX0 y z (loByte nn) nn)
    (readOf (opcode 0 y z) (loByte nn) (hiByte nn) ++ padding (opcode 0 y z)) := by
  match z with
  | 0 | 1 | 2 | 3 | 4 | 5 | 6 | 7 =>
    match y with
    | 0 | 1 | 2 | 3 | 4 | 5 | 6 | 7 => exact ⟨rfl, rfl⟩

theorem decodeX1_encodesTo (y z : Fin 8) (b1 b2 : Byte) :
    EncodesTo (decodeX1 y z) (readOf (opcode 1 y z) b1 b2 ++ padding (opcode 1 y z)) := by
  match z with
  | 0 | 1 | 2 | 3 | 4 | 5 | 6 | 7 =>
    match y with
    | 0 | 1 | 2 | 3 | 4 | 5 | 6 | 7 => exact ⟨rfl, rfl⟩

theorem decodeX2_encodesTo (y z : Fin 8) (b1 b2 : Byte) :
    EncodesTo (decodeX2 y z) (readOf (opcode 2 y z) b1 b2 ++ padding (opcode 2 y z)) := by
  match z with
  | 0 | 1 | 2 | 3 | 4 | 5 | 6 | 7 =>
    match y with
    | 0 | 1 | 2 | 3 | 4 | 5 | 6 | 7 => exact ⟨rfl, rfl⟩

theorem decodeExtended_opcode_encodesTo (x : Fin 4) (y z : Fin 8) :
    EncodesTo (decodeExtended (opcode x y z)) [0xCB#8, opcode x y z] := by
  match x with
  | 0 | 1 | 2 | 3 =>
    match z with
    | 0 | 1 | 2 | 3 | 4 | 5 | 6 | 7 =>
      match y with
      | 0 | 1 | 2 | 3 | 4 | 5 | 6 | 7 => exact ⟨rfl, rfl⟩

/-- 30 R154: the fields of the second opcode byte are again x, y, z. -/
theorem decodeExtended_encodesTo (op2 : Byte) : EncodesTo (decodeExtended op2) [0xCB#8, op2] := by
  have h := decodeExtended_opcode_encodesTo ⟨_, bitField_two_lt op2 6⟩ (fieldY op2) (fieldZ op2)
  rwa [opcode_fields rfl] at h

/-- In the column z = 3 the opcode 0xCB has the extended space behind it (30 R153, R154). -/
theorem decodeX3_encodesTo (y z : Fin 8) (nn : Word) : EncodesTo (decodeX3 y z (loByte nn) nn)
    (readOf (opcode 3 y z) (loByte nn) (hiByte nn) ++ padding (opcode 3 y z)) := by
  match z with
  | 3 =>
    match y with
    | 1 => exact decodeExtended_encodesTo (loByte nn)
    | 0 | 2 | 3 | 4 | 5 | 6 | 7 => exact ⟨rfl, rfl⟩
  | 0 | 1 | 2 | 4 | 5 | 6 | 7 =>
    match y with
    | 0 | 1 | 2 | 3 | 4 | 5 | 6 | 7 => exact ⟨rfl, rfl⟩

/-- No opcode is without an instruction (30 R157, R158): quadrant by quadrant. -/
theorem decodeOpcode_encodesTo (op b1 b2 : Byte) :
    EncodesTo (decodeOpcode op b1 b2) (readOf op b1 b2 ++ padding op) := by
  unfold decodeOpcode
  match hx : bitField op 6 2, bitField_two_lt op 6 with
  | 0, _ =>
    have h := decodeX0_encodesTo (fieldY op) (fieldZ op) (joinBytes b2 b1)
    rwa [opcode_fields hx, loByte_joinBytes, hiByte_joinBytes] at h
  | 1, _ =>
    have h := decodeX1_encodesTo (fieldY op) (fieldZ op) b1 b2
    rwa [opcode_fields hx] at h
  | 2, _ =>
    have h := decodeX2_encodesTo (fieldY op) (fieldZ op) b1 b2
    rwa [opcode_fields hx] at h
  | 3, _ =>
    have h := decodeX3_encodesTo (fieldY op) (fieldZ op) (joinBytes b2 b1)
    rwa [opcode_fields hx, loByte_joinBytes, hiByte_joinBytes] at h

/-! ## What the decoder reads -/

/-- The decoder looks at no byte after the ones it reads. -/
theorem decode_append {bytes : List Byte} {i : Instr} (h : decode bytes = .ok i) (rest : List Byte) :
    decode (bytes ++ rest) = .ok i := by
  match bytes with
  | [] => cases h
  | op :: operands =>
    unfold decode at h ⊢
    dsimp only [List.cons_append] at h ⊢
    generalize operandBytes op = n at h ⊢
    match n, operands with
    | 0, _ => exact h
    | 1, _ :: _ => exact h
    | 2, _ :: _ :: _ => exact h
    | 1, [] | 2, [] | 2, [_] | _ + 3, _ => cases h

/-- Every opcode and the operand bytes it takes are read as an instruction, whose encoding they are but for STOP's
padding. -/
theorem exists_decode_readOf (op b1 b2 : Byte) :
    ∃ i, decode (readOf op b1 b2) = .ok i ∧ EncodesTo i (readOf op b1 b2 ++ padding op) := by
  have hn := operandBytes_le_two op
  have h0 := decodeOpcode_encodesTo op 0#8 0#8
  have h1 := decodeOpcode_encodesTo op b1 0#8
  have h2 := decodeOpcode_encodesTo op b1 b2
  unfold readOf decode at *
  dsimp only
  generalize operandBytes op = n at *
  match n with
  | 0 => exact ⟨_, rfl, h0⟩
  | 1 => exact ⟨_, rfl, h1⟩
  | 2 => exact ⟨_, rfl, h2⟩

/-- STOP is read from its opcode alone (40 R182). -/
theorem eq_stop_of_decode_readOf {b1 b2 : Byte} {i : Instr} (h : decode (readOf 0x10#8 b1 b2) = .ok i) : i = .stop :=
  (Except.ok.inj h).symm

theorem decode_word {op : Byte} {f : Word → Instr} (h : ∀ b1 b2, decode [op, b1, b2] = .ok (f (joinBytes b2 b1)))
    (nn : Word) : decode [op, loByte nn, hiByte nn] = .ok (f nn) := by
  rw [h, joinBytes_hiByte_loByte]

theorem decode_encode {i : Instr} (h : i.wellFormed = true) : decode (encode i) = .ok i := by
  cases i.kind with
  | prefixCb op2 => cases h
  | ldReg dst src => cases dst <;> cases src <;> rfl
  | ldImm n r | ldFromHl r | ldToHl r | inc r | dec r => cases r <;> rfl
  | aluReg op r | rotReg op r => cases op <;> cases r <;> rfl
  | aluHl op | aluImm n op | rotHl op => cases op <;> rfl
  | addHl p | incPair p | decPair p | push p | pop p => cases p <;> rfl
  | jrIf e cc | retIf cc => cases cc <;> rfl
  | rst b | bitHl b | resHl b | setHl b =>
    match b with
    | 0 | 1 | 2 | 3 | 4 | 5 | 6 | 7 => rfl
  | bitReg b r | resReg b r | setReg b r =>
    match b with
    | 0 | 1 | 2 | 3 | 4 | 5 | 6 | 7 => cases r <;> rfl
  | ldPair nn p => cases p <;> exact decode_word (fun _ _ => rfl) nn
  | jpIf nn cc | callIf nn cc => cases cc <;> exact decode_word (fun _ _ => rfl) nn
  | ldIndN16Sp nn | jpN16 nn | callN16 nn | ldIndN16A nn | ldAIndN16 nn => exact decode_word (fun _ _ => rfl) nn
  | _ => rfl

end Sys2Proof.Machine
end

section
/-! PROOFS. The encoding (spec/30_encoding.md R140 to R159): the decoder reads back every encoding, any three
bytes begin with an instruction, and the fetch reads the bytes of the one at PC. -/

namespace Sys2Proof.Machine

open Sys2Proof.Rules

/-- Settles O57: `decode_encode` goes family by family, and the bytes that follow are not looked at. -/
theorem decodeReadsBackEveryEncoding : Obligations.DecodeReadsBackEveryEncoding :=
  fun _ rest h => decode_append (decode_encode h) rest

/-- Settles O58: the bytes read of the three are an encoding but for STOP's padding, and the rest is not looked at. -/
theorem everyByteStringIsAnInstruction : Obligations.EveryByteStringIsAnInstruction := by
  intro b0 b1 b2
  obtain ⟨i, hdecode, hi⟩ := exists_decode_readOf b0 b1 b2
  have hread := readOf_append_drop b0 b1 b2
  refine ⟨i, hread ▸ decode_append hdecode _, hi.wellFormed, fun hne => ?_, fun hstop => ?_⟩
  · exact List.prefix_iff_eq_take.mp ⟨_, hi.encode_eq_of_ne_stop hne ▸ hread⟩
  · subst hstop
    exact eq_stop_of_decode_readOf hdecode

/-- Settles O59: each word is evaluated. -/
theorem sampleWordsDecode : Obligations.SampleWordsDecode :=
  ⟨rfl, rfl, rfl, rfl, rfl, rfl, rfl, rfl, rfl, rfl, rfl, rfl, rfl, rfl, rfl⟩

/-! ## The fetch -/

/-- The address of the `j`-th byte of a fetch (30 R143). -/
def fetchAddress (s : State) (j : Nat) : Word := s.cpu.pc + BitVec.ofNat 16 j

/-- What the bus gives for the `j`-th byte of a fetch, after the reads of the bytes before it. -/
def fetchedByte (s : State) (j : Nat) : Byte :=
  busValue (afterReads s ((List.range j).map (fetchAddress s))) (fetchAddress s j)

/-- The bytes the machine reads of an instruction that lies at PC. -/
def fetched (s : State) : List Byte := readOf (fetchedByte s 0) (fetchedByte s 1) (fetchedByte s 2)

@[simp] theorem fetchAddress_zero (s : State) : fetchAddress s 0 = s.cpu.pc := BitVec.add_zero _

theorem fetched_getElem? (s : State) {j : Nat} (hj : j < (fetched s).length) :
    (fetched s)[j]? = some (fetchedByte s j) := by
  rw [← List.getElem?_append_left hj, fetched, readOf_append_drop]
  match j, Nat.lt_of_lt_of_le hj (readOf_length_le _ _ _) with
  | 0, _ | 1, _ | 2, _ => rfl

theorem fetchBytes_eq (s : State) :
    fetchBytes s = (fetched s, afterReads s ((List.range (fetched s).length).map (fetchAddress s))) := by
  have hn := operandBytes_le_two (fetchedByte s 0)
  have hop : busValue s s.cpu.pc = fetchedByte s 0 := by simp [fetchedByte, afterReads]
  unfold fetchBytes fetched readOf
  simp only [busRead, hop]
  generalize operandBytes (fetchedByte s 0) = n at hn
  match n with
  | 0 | 1 | 2 => simp [List.range_succ, afterReads, fetchedByte, fetchAddress]

/-- Settles O34: the bytes fetched are the bytes read of the instruction at PC. -/
theorem fetchReadsTheInstructionsBytes : Obligations.FetchReadsTheInstructionsBytes := by
  intro s
  obtain ⟨i, hdecode, hi⟩ := exists_decode_readOf (fetchedByte s 0) (fetchedByte s 1) (fetchedByte s 2)
  refine ⟨fetched s, i, fetchBytes_eq s, hdecode, hi.wellFormed, fun j hj => fetched_getElem? s hj, ?_, ?_⟩
  · intro hne
    refine hi.encode_eq_of_ne_stop fun hop => hne ?_
    rw [hop] at hdecode
    exact eq_stop_of_decode_readOf hdecode
  · rintro rfl
    have hop : fetchedByte s 0 = 0x10#8 := (List.cons.inj hi.encode_eq).1.symm
    rw [fetched, hop]
    rfl

end Sys2Proof.Machine
end

section
/-! SUPPORT. The parts of a CPU step (spec/40_cpu_step_and_control.md R170 to R179): which case applies, what Case 4
makes of the instruction at PC, and the step-local `en`. -/

namespace Sys2Proof.Machine

/-! ## Which case applies -/

/-- `pending` (60 R358), by the masks. -/
theorem pending_iff (q : Irq) : q.pending = true ↔ q.request &&& q.enable ≠ 0#5 := decide_eq_true_iff

theorem cpuStep_eq_waitStep {s : State} (hhalted : s.cpu.halted = true)
    (hnone : ¬ s.irq.request &&& s.irq.enable ≠ 0#5) : cpuStep s = .next (waitStep s) := by
  rw [← pending_iff] at hnone
  rw [cpuStep, if_pos hhalted, if_neg hnone]

theorem cpuStep_eq_wakeStep {s : State} (hhalted : s.cpu.halted = true)
    (hsome : s.irq.request &&& s.irq.enable ≠ 0#5) : cpuStep s = .next (wakeStep s) := by
  rw [← pending_iff] at hsome
  rw [cpuStep, if_pos hhalted, if_pos hsome]

theorem cpuStep_eq_dispatchStep {s : State} (hhalted : s.cpu.halted = false)
    (h : s.irq.dispatch ≠ .idle ∨ (s.cpu.ime = true ∧ s.irq.request &&& s.irq.enable ≠ 0#5)) :
    cpuStep s = .next (dispatchStep s) := by
  rw [← pending_iff] at h
  rw [cpuStep, hhalted, if_neg Bool.false_ne_true, if_pos h]

theorem cpuStep_eq_normalStep {s : State} (hhalted : s.cpu.halted = false) (hidle : s.irq.dispatch = .idle)
    (hnone : ¬ (s.cpu.ime = true ∧ s.irq.request &&& s.irq.enable ≠ 0#5)) : cpuStep s = normalStep s := by
  rw [← pending_iff] at hnone
  have hcase : ¬ (s.irq.dispatch ≠ .idle ∨ (s.cpu.ime = true ∧ s.irq.pending = true)) :=
    fun h => h.elim (· hidle) hnone
  rw [cpuStep, hhalted, if_neg Bool.false_ne_true, if_neg hcase]

/-! ## Case 4 -/

theorem normalStep_eq {s s1 : State} {bytes : List Byte} {i : Instr}
    (hfetch : fetchBytes (beginInstruction s) = (bytes, s1)) (hdecode : decode bytes = .ok i) :
    normalStep s = onNext (endInstruction s.cpu.haltBug) (exec i s1) := by
  rw [normalStep, hfetch]
  dsimp only
  rw [hdecode]

@[simp] theorem fetchBytes_cpu (s : State) : (fetchBytes s).2.cpu = s.cpu := by
  unfold fetchBytes
  dsimp only [busRead]
  split <;> simp

/-- The bytes of a fetch are an instruction: no fetch comes short (log 17). -/
theorem exists_decode_fetchBytes (s : State) : ∃ i, decode (fetchBytes s).1 = .ok i := by
  obtain ⟨i, hdecode, -⟩ := exists_decode_readOf (fetchedByte s 0) (fetchedByte s 1) (fetchedByte s 2)
  exact ⟨i, by rwa [fetchBytes_eq]⟩

/-- Case 4 with the halt bug armed or not: the same instruction runs from the same state, and only the end of the
instruction sees the bug (40 R175, R176). -/
theorem exists_normalStep_eq (s : State) : ∃ i u, exec i (fetchBytes (beginInstruction s)).2 = .next u ∧
    ∀ bug, normalStep { s with cpu := { s.cpu with haltBug := bug } } = .next (endInstruction bug u) := by
  obtain ⟨i, hdecode⟩ := exists_decode_fetchBytes (beginInstruction s)
  obtain ⟨u, hu, -⟩ := exec_fine i (fetchBytes (beginInstruction s)).2
  refine ⟨i, u, hu, fun bug => ?_⟩
  have hstep := normalStep_eq (s := { s with cpu := { s.cpu with haltBug := bug } }) rfl hdecode
  exact hstep.trans ((onNext_eq_next _ _ _).mpr ⟨u, hu, rfl⟩)

/-- Every CPU step gives a next state and reports a tick count of 40 R178. -/
theorem exists_cpuStep_eq (s : State) : ∃ t, cpuStep s = .next t ∧ TicksOk t.cpu.ticks := by
  have hfour : TicksOk 4 := by unfold TicksOk; omega
  obtain ⟨-, -, h⟩ | ⟨-, -, h⟩ | ⟨-, -, h⟩ | ⟨-, -, -, h⟩ := cpuStep_cases s
  case inl => exact ⟨_, h, hfour⟩
  case inr.inl => exact ⟨_, h, hfour⟩
  case inr.inr.inl => exact ⟨_, h, hfour⟩
  case inr.inr.inr =>
    obtain ⟨i, u, hu, hstep⟩ := exists_normalStep_eq s
    obtain ⟨v, hv, -, hticks⟩ := exec_fine i (fetchBytes (beginInstruction s)).2
    obtain rfl : u = v := Host.Outcome.next.inj (hu.symm.trans hv)
    exact ⟨_, h.trans (hstep s.cpu.haltBug), hticks⟩

theorem step_eq_of_cpuStep {s t : State} (h : cpuStep s = .next t) : step s = .next (runDevices t) :=
  (onNext_eq_next _ _ _).mpr ⟨t, h, rfl⟩

/-! ## The step-local `en` -/

theorem extendedOp_en (op2 : Byte) (s : State) : (extendedOp op2 s).cpu.en = s.cpu.en := by
  unfold extendedOp
  dsimp only
  split <;> simp

/-- DI alone writes `en` (40 R184): the families one by one, then the rows that stand alone. -/
theorem exec_keeps_en {i : Instr} (h : i ≠ .di) (s : State) : Keeps Cpu.en s (exec i s) := by
  cases i.kind with
  | di => exact absurd rfl h
  | prefixCb op2 => simp [exec_prefixCb, extendedOp_en]
  | ldReg dst src => simp [exec_mkLdReg]
  | ldImm n dst => simp [exec_mkLdImm]
  | ldFromHl dst => simp [exec_mkLdFromHl]
  | ldToHl src => simp [exec_mkLdToHl]
  | inc r => simp [exec_mkInc]
  | dec r => simp [exec_mkDec]
  | aluReg op r => simp [exec_mkAluReg]
  | aluHl op => simp [exec_mkAluHl]
  | aluImm n op => simp [exec_mkAluImm]
  | ldPair nn p => simp [exec_mkLdPair]
  | addHl p => simp [exec_mkAddHl]
  | incPair p => simp [exec_mkIncPair]
  | decPair p => simp [exec_mkDecPair]
  | push p => simp [exec_mkPush]
  | pop p => simp [exec_mkPop]
  | jrIf e cc => simp [exec_mkJr]
  | jpIf nn cc => simp [exec_mkJp]
  | callIf nn cc => simp [exec_mkCall]
  | retIf cc => simp [exec_mkRet]
  | rst y => simp [exec_mkRst]
  | rotReg op r => simp [exec_mkRotReg]
  | rotHl op => simp [exec_mkRotHl]
  | bitReg b r => simp [exec_mkBitReg]
  | bitHl b => simp [exec_mkBitHl]
  | resReg b r => simp [exec_mkResReg]
  | resHl b => simp [exec_mkResHl]
  | setReg b r => simp [exec_mkSetReg]
  | setHl b => simp [exec_mkSetHl]
  | _ => exact (keeps_next Cpu.en s _).mpr (by simp)

/-! ## The counter under the timer's ticks -/

theorem timerTick_counter (s : State) : (timerTick s).timer.counter = s.timer.counter + 1#16 := by
  rw [timerTick_timer]
  unfold Timer.tick
  dsimp only
  split
  · split
    · split <;> rfl
    · rfl
  · rfl
  · rfl

theorem timerStep_counter (n : Nat) (s : State) :
    (timerStep n s).timer.counter = s.timer.counter + BitVec.ofNat 16 n := by
  induction n generalizing s with
  | zero => exact (BitVec.add_zero _).symm
  | succ n ih =>
    rw [timerStep, ih, timerTick_counter, BitVec.add_assoc, ← BitVec.ofNat_add, Nat.add_comm]

@[simp] theorem runDevices_counter (s : State) :
    (runDevices s).timer.counter = s.timer.counter + BitVec.ofNat 16 s.cpu.ticks := by
  rw [runDevices, ppuStep_timer, timerStep_counter]

end Sys2Proof.Machine
end

section
/-! PROOFS. The CPU step and the control instructions (spec/40_cpu_step_and_control.md R170 to R186). -/

namespace Sys2Proof.Machine

open Sys2Proof.Rules

/-! ## The instructions -/

theorem ExtendedForm.pc_eq {s t : State} {i : Instr} (h : ExtendedForm s i t) : t.cpu.pc = s.cpu.pc + 2#16 := by
  cases h with
  | rotReg op r => rw [rotReg_cpu]
  | rotHl op => rw [rotHl_cpu]
  | bitReg b r => rw [bitTestReg_cpu]
  | bitHl b => rw [bitTestHl_cpu]
  | resReg b r => rw [bitResetReg_cpu]
  | resHl b => rw [bitResetHl_cpu]
  | setReg b r => rw [bitSetReg_cpu]
  | setHl b => rw [bitSetHl_cpu]

/-- Settles O26: the row of 0xCB and the decoder read the second byte alike. -/
theorem prefixRunsTheExtendedInstruction : Obligations.PrefixRunsTheExtendedInstruction := by
  intro s op2
  have hform := extendedForm_decodeExtended op2 s
  have hencodes := decodeExtended_encodesTo op2
  exact ⟨decodeExtended op2, rfl, hencodes.wellFormed, hencodes.encode_eq, hform.exec_eq.symm, _, hform.exec_eq,
    hform.pc_eq⟩

/-- Settles O8: each of the eleven rows runs the one meaning of an undefined opcode. -/
theorem nopAndUndefinedOpcodesOnlyAdvance : Obligations.NopAndUndefinedOpcodesOnlyAdvance := by
  refine fun s => ⟨rfl, exec_nop s, fun op i hrow => ?_⟩
  have hundefined : encode i = [op] ∧ exec i s = .next (undefinedOp op s) := by
    simp only [List.mem_cons, Prod.mk.injEq, List.not_mem_nil, or_false] at hrow
    obtain ⟨rfl, rfl⟩ | ⟨rfl, rfl⟩ | ⟨rfl, rfl⟩ | ⟨rfl, rfl⟩ | ⟨rfl, rfl⟩ | ⟨rfl, rfl⟩ | ⟨rfl, rfl⟩ | ⟨rfl, rfl⟩ |
      ⟨rfl, rfl⟩ | ⟨rfl, rfl⟩ | ⟨rfl, rfl⟩ := hrow <;> exact ⟨rfl, rfl⟩
  exact hundefined

theorem haltOp_of_pending {s : State} (h : s.cpu.ime = false ∧ s.irq.request &&& s.irq.enable ≠ 0#5) :
    haltOp s = past s { s.cpu with haltBug := true } 1#16 4 := by
  rw [← pending_iff] at h
  exact if_pos (by simp [h])

theorem haltOp_of_not_pending {s : State} (h : ¬ (s.cpu.ime = false ∧ s.irq.request &&& s.irq.enable ≠ 0#5)) :
    haltOp s = past s { s.cpu with halted := true } 1#16 4 := by
  rw [← pending_iff] at h
  exact if_neg (by simpa using h)

theorem disableOp_eq (s : State) : disableOp s =
    past s { s.cpu with ime := false, en := if s.cfg.diCancelsEi = true then false else s.cpu.en } 1#16 4 := by
  have hen : (s.cpu.en && !s.cfg.diCancelsEi) = if s.cfg.diCancelsEi = true then false else s.cpu.en := by
    cases s.cfg.diCancelsEi <;> simp
  rw [← hen]
  rfl

/-- Settles O9: HALT by the two cases of its condition, and after STOP four ticks count from 0. -/
theorem haltStopEiDi : Obligations.HaltStopEiDi := by
  intro s
  refine ⟨⟨rfl, fun h => ?_, fun h => ?_⟩, ⟨rfl, fun _ => rfl, stopOp s, exec_stop s, rfl, ?_⟩,
    rfl, rfl, exec_ei s, ?_⟩
  · rw [exec_halt, haltOp_of_pending h]
  · rw [exec_halt, haltOp_of_not_pending h]
  · rw [runDevices_counter]
    rfl
  · rw [exec_di, disableOp_eq]

/-! ## The step -/

/-- Settles O30: the first three cases, and a transition of the sequencer writes PC, SP and IME alone. -/
theorem waitWakeAndDispatchSteps : Obligations.WaitWakeAndDispatchSteps := by
  refine fun s => ⟨cpuStep_eq_waitStep, cpuStep_eq_wakeStep, fun hhalted h => ⟨cpuStep_eq_dispatchStep hhalted h, ?_⟩⟩
  obtain ⟨sp, pc, ime, hcpu⟩ := sequencerStep_cpu s
  rw [hcpu]
  exact ⟨rfl, rfl, rfl⟩

/-- Settles O35: Case 4 on the instruction fetched, then the devices' share. -/
theorem stepRunsTheDecodedInstruction : Obligations.StepRunsTheDecodedInstruction := by
  intro s s1 t bytes i hhalted hidle hnone hfetch hdecode hexec
  have hcpu : cpuStep s = .next (endInstruction s.cpu.haltBug t) := by
    rw [cpuStep_eq_normalStep hhalted hidle hnone, normalStep_eq hfetch hdecode, hexec]
    rfl
  exact step_eq_of_cpuStep hcpu

/-- Settles O36: with the bug armed or not, Case 4 differs at its end alone. -/
theorem haltBugLeavesPcOneLower : Obligations.HaltBugLeavesPcOneLower := by
  intro s t hhalted hidle hnone hbug hstep
  obtain ⟨i, u, -, hnormal⟩ := exists_normalStep_eq s
  have hcpu (bug : Bool) :
      cpuStep { s with cpu := { s.cpu with haltBug := bug } } = .next (endInstruction bug u) := by
    rw [← hnormal bug]
    exact cpuStep_eq_normalStep hhalted hidle hnone
  obtain rfl : t = endInstruction false u := Host.Outcome.next.inj (hstep.symm.trans (hcpu false))
  have harmed : cpuStep s = .next (endInstruction s.cpu.haltBug u) := hcpu s.cpu.haltBug
  rw [harmed, hbug]
  rfl

/-- What the instruction leaves for the end of the step that consumed a scheduled enable (40 R177, R183, R184). -/
theorem exec_enable {i : Instr} {s t : State} (h : exec i s = .next t) (hen : s.cpu.en = true)
    (hsched : s.cpu.imeScheduled = false) :
    (t.cpu.ime || t.cpu.en) = (if i = .di then !s.cfg.diCancelsEi else true) ∧
      t.cpu.imeScheduled = decide (i = .ei) := by
  by_cases hdi : i = .di
  · subst hdi
    rw [exec_di] at h
    cases h
    simp [hen, hsched]
  · have hen' : t.cpu.en = true := (exec_keeps_en hdi s t h).trans hen
    rw [hen', Bool.or_true, if_neg hdi]
    refine ⟨rfl, ?_⟩
    by_cases hei : i = .ei
    · subst hei
      rw [exec_ei] at h
      cases h
      rfl
    · obtain ⟨-, hkept, -, -⟩ := exec_latchRule h
      rw [hkept hei, hsched, decide_eq_false hei]

/-- Settles O37: DI alone writes `en`, EI alone sets the schedule again. -/
theorem enableTakesEffectAfterTheNextInstruction : Obligations.EnableTakesEffectAfterTheNextInstruction := by
  intro s s1 t bytes i hhalted hidle hnone hscheduled hfetch hdecode hstep
  rw [cpuStep_eq_normalStep hhalted hidle hnone, normalStep_eq hfetch hdecode, onNext_eq_next] at hstep
  obtain ⟨u, hexec, rfl⟩ := hstep
  have hs1 : s1 = (fetchBytes (beginInstruction s)).2 := by rw [hfetch]
  have hcpu : s1.cpu = (beginInstruction s).cpu := by rw [hs1, fetchBytes_cpu]
  have hcfg : s1.cfg = s.cfg := by rw [hs1, (fetchBytes_reaches _).cfg_eq, beginInstruction_cfg]
  rw [← hcfg]
  exact exec_enable hexec (by rw [hcpu]; exact hscheduled) (by rw [hcpu]; rfl)

/-- Settles O38: the CPU step case by case, and the devices leave the CPU alone. -/
theorem noStepFails : Obligations.NoStepFails := by
  intro s
  obtain ⟨t, hcpu, hticks⟩ := exists_cpuStep_eq s
  exact ⟨t, runDevices t, hcpu, step_eq_of_cpuStep hcpu, runDevices_cpu t, hticks⟩

end Sys2Proof.Machine
end

section
/-! PROOFS. The 8-bit loads and stores (spec/41_loads_8bit.md R200 to R219). -/

namespace Sys2Proof.Machine

open Sys2Proof.Rules

/-! ## The shared operations, in the rules' shape -/

theorem busRead_advance (s : State) (a : Word) (f : Cpu → Cpu) (len : Word) (n : Nat) :
    ((busRead s a).2.mapCpu f).advance len n = past (busRead s a).2 (f s.cpu) len n := by
  rw [busRead_snd, ← busReadEffect_cpu s a]
  rfl

theorem busWrite_advance (s : State) (a : Word) (v : Byte) (f : Cpu → Cpu) (len : Word) (n : Nat) :
    ((busWrite s a v).mapCpu f).advance len n = past (busWrite s a v) (f s.cpu) len n := by
  rw [← busWrite_cpu s a v]
  rfl

theorem loadReg_eq (dst src : Reg8) (s : State) :
    loadReg dst src s = past s (s.cpu.setReg dst (s.cpu.reg src)) 1#16 4 := rfl

theorem loadImm_eq (dst : Reg8) (n : Byte) (s : State) : loadImm dst n s = past s (s.cpu.setReg dst n) 2#16 8 := rfl

theorem loadFromHl_eq (dst : Reg8) (s : State) : loadFromHl dst s =
    past (busRead s s.cpu.hl).2 (s.cpu.setReg dst (busRead s s.cpu.hl).1) 1#16 8 :=
  busRead_advance s s.cpu.hl (·.setReg dst (busRead s s.cpu.hl).1) 1#16 8

theorem storeToHl_eq (src : Reg8) (s : State) :
    storeToHl src s = past (busWrite s s.cpu.hl (s.cpu.reg src)) s.cpu 1#16 8 :=
  busWrite_advance s s.cpu.hl (s.cpu.reg src) id 1#16 8

theorem storeImmToHl_eq (n : Byte) (s : State) : storeImmToHl n s = past (busWrite s s.cpu.hl n) s.cpu 2#16 12 :=
  busWrite_advance s s.cpu.hl n id 2#16 12

theorem loadA_eq (ea len : Word) (n : Nat) (s : State) :
    loadA ea len n s = past (busRead s ea).2 { s.cpu with a := (busRead s ea).1 } len n :=
  busRead_advance s ea (fun c => { c with a := (busRead s ea).1 }) len n

theorem storeA_eq (ea len : Word) (n : Nat) (s : State) :
    storeA ea len n s = past (busWrite s ea s.cpu.a) s.cpu len n :=
  busWrite_advance s ea s.cpu.a id len n

/-- A is no part of HL, so the step after the load adds to the HL that the access used (41 R215, R217). -/
theorem loadAStep_eq (delta : Word) (s : State) : loadAStep delta s =
    past (busRead s s.cpu.hl).2
      { s.cpu with a := (busRead s s.cpu.hl).1, h := hiByte (s.cpu.hl + delta), l := loByte (s.cpu.hl + delta) }
      1#16 8 :=
  busRead_advance s s.cpu.hl
    (fun c => { c with a := (busRead s s.cpu.hl).1, h := hiByte (c.hl + delta), l := loByte (c.hl + delta) }) 1#16 8

theorem storeAStep_eq (delta : Word) (s : State) : storeAStep delta s =
    past (busWrite s s.cpu.hl s.cpu.a)
      { s.cpu with h := hiByte (s.cpu.hl + delta), l := loByte (s.cpu.hl + delta) } 1#16 8 :=
  busWrite_advance s s.cpu.hl s.cpu.a (fun c => c.setHl (c.hl + delta)) 1#16 8

/-- The zero-page address by numbers (30 R144). -/
theorem zeroPage_eq (offset : Byte) : zeroPage offset = BitVec.ofNat 16 (0xFF00 + offset.toNat) := by
  rw [zeroPage, zext16, BitVec.ofNat_add, BitVec.ofNat_toNat]

/-! ## The encodings of the families, at every operand code (30 R145) -/

theorem encode_mkLdReg (dst src : Reg8) :
    encode (.mkLdReg dst src) = [byte (0x40 + 8 * code8 dst + code8 src)] := by
  cases dst <;> cases src <;> rfl

theorem encode_mkLdImm (n : Byte) (dst : Reg8) : encode (.mkLdImm n dst) = [byte (0x06 + 8 * code8 dst), n] := by
  cases dst <;> rfl

theorem encode_mkLdFromHl (dst : Reg8) : encode (.mkLdFromHl dst) = [byte (0x46 + 8 * code8 dst)] := by
  cases dst <;> rfl

theorem encode_mkLdToHl (src : Reg8) : encode (.mkLdToHl src) = [byte (0x70 + code8 src)] := by
  cases src <;> rfl

/-! ## The instructions -/

/-- Settles O10: each family runs its operation, and its encoding counts by the operand codes. -/
theorem loadsAndStoresOfARegister : Obligations.LoadsAndStoresOfARegister := by
  refine fun s dst src n => ⟨⟨encode_mkLdReg dst src, ?_⟩, ⟨encode_mkLdImm n dst, ?_⟩, ⟨encode_mkLdFromHl dst, ?_⟩,
    ⟨encode_mkLdToHl src, ?_⟩, rfl, ?_⟩
  · rw [exec_mkLdReg, loadReg_eq]
  · rw [exec_mkLdImm, loadImm_eq]
  · rw [exec_mkLdFromHl, loadFromHl_eq]
  · rw [exec_mkLdToHl, storeToHl_eq]
  · rw [exec_ldIndHlN8, storeImmToHl_eq]

/-- Settles O11: one load and one store of A, at five effective addresses each. -/
theorem loadsAndStoresOfA : Obligations.LoadsAndStoresOfA := by
  intro s n nn load store
  have hload (ea len : Word) (ticks : Nat) : .next (loadA ea len ticks s) = load ea len ticks := by rw [loadA_eq]
  have hstore (ea len : Word) (ticks : Nat) : .next (storeA ea len ticks s) = store ea len ticks := by rw [storeA_eq]
  refine ⟨⟨rfl, ?_⟩, ⟨rfl, ?_⟩, ⟨rfl, ?_⟩, ⟨rfl, ?_⟩, ⟨rfl, ?_⟩, ⟨rfl, ?_⟩, ⟨rfl, ?_⟩, ⟨rfl, ?_⟩, ⟨rfl, ?_⟩, rfl, ?_⟩
  · rw [exec_ldAIndBc, hload, Cpu.bc]
  · rw [exec_ldAIndDe, hload, Cpu.de]
  · rw [exec_ldAIndN16, hload]
  · rw [exec_ldhAIndC, hload, zeroPage_eq]
  · rw [exec_ldhAIndN8, hload, zeroPage_eq]
  · rw [exec_ldIndBcA, hstore, Cpu.bc]
  · rw [exec_ldIndDeA, hstore, Cpu.de]
  · rw [exec_ldIndN16A, hstore]
  · rw [exec_ldhIndCA, hstore, zeroPage_eq]
  · rw [exec_ldhIndN8A, hstore, zeroPage_eq]

/-- Settles O12: one load and one store with the step of HL; HL down by one is HL with -1 added. -/
theorem loadsAndStoresStepHl : Obligations.LoadsAndStoresStepHl := by
  intro s
  refine ⟨⟨rfl, ?_⟩, ⟨rfl, ?_⟩, ⟨rfl, ?_⟩, rfl, ?_⟩
  · rw [exec_ldAIndHlDec, loadAStep_eq, ← BitVec.sub_eq_add_neg]
  · rw [exec_ldIndHlDecA, storeAStep_eq, ← BitVec.sub_eq_add_neg]
  · rw [exec_ldAIndHlInc, loadAStep_eq]
  · rw [exec_ldIndHlIncA, storeAStep_eq]

end Sys2Proof.Machine
end

section
/-! PROOFS. The 16-bit loads and the stack instructions (spec/42_loads_16bit_stack.md R230 to R236), and `ADD SP,e`
(44_alu_16bit.md R283), which shares their signed sum. -/

namespace Sys2Proof.Machine

open Sys2Proof.Rules

/-! ## SP and a signed offset -/

theorem sext16_toNat (e : Byte) : ((sext16 e).toNat : Int) = e.toInt % 65536 := by
  have hofInt : sext16 e = BitVec.ofInt 16 e.toInt := rfl
  rw [hofInt, BitVec.toNat_ofInt]
  omega

/-- A sum with an extended byte is the signed sum, modulo 65536. -/
theorem toNat_add_sext16 (v : Word) (e : Byte) :
    ((v + sext16 e).toNat : Int) = ((v.toNat : Int) + e.toInt) % 65536 := by
  have hoffset := sext16_toNat e
  rw [BitVec.toNat_add]
  omega

theorem spPlusE_rule (sp : Word) (e : Byte) : SpPlusRule sp e (spPlusE sp e).1 (spPlusE sp e).2 :=
  ⟨toNat_add_sext16 sp e, rfl, rfl, decide_eq_true_iff, decide_eq_true_iff⟩

theorem loadHlSpOff_eq (e : Byte) (s : State) : loadHlSpOff e s = past s
    { s.cpu with h := hiByte (spPlusE s.cpu.sp e).1, l := loByte (spPlusE s.cpu.sp e).1,
                 flags := (spPlusE s.cpu.sp e).2 } 2#16 12 := rfl

theorem addSpOffset_eq (e : Byte) (s : State) : addSpOffset e s =
    past s { s.cpu with sp := (spPlusE s.cpu.sp e).1, flags := (spPlusE s.cpu.sp e).2 } 2#16 16 := rfl

/-- Settles O14: the two forms put one signed sum and its flags in HL and in SP. -/
theorem spPlusOffset : Obligations.SpPlusOffset := by
  refine fun s e => ⟨rfl, rfl, (spPlusE s.cpu.sp e).1, (spPlusE s.cpu.sp e).2, spPlusE_rule s.cpu.sp e, ?_, ?_⟩
  · rw [exec_ldHlSpOff, loadHlSpOff_eq]
  · rw [exec_addSpOff, addSpOffset_eq]

/-! ## Loads of a pair and of SP -/

theorem loadPair_eq (p : Pair) (nn : Word) (s : State) :
    loadPair p nn s = past s (s.cpu.setPair p nn) 3#16 12 := rfl

theorem loadSpHl_eq (s : State) : loadSpHl s = past s { s.cpu with sp := s.cpu.hl } 1#16 8 := rfl

theorem storeSp_eq (nn : Word) (s : State) : storeSp nn s =
    past (busWrite (busWrite s nn (loByte s.cpu.sp)) (nn + 1#16) (hiByte s.cpu.sp)) s.cpu 3#16 20 := by
  have hsecond := busWrite_advance (busWrite s nn (loByte s.cpu.sp)) (nn + 1#16) (hiByte s.cpu.sp) id 3#16 20
  rw [busWrite_cpu] at hsecond
  exact hsecond

theorem encode_mkLdPair (nn : Word) (p : Pair) :
    encode (.mkLdPair nn p) = [byte (0x01 + 16 * codePair p), loByte nn, hiByte nn] := by
  cases p <;> rfl

/-- Settles O13: each load sets one pair, and the store of SP is its two writes. -/
theorem loadsOfAPairAndSp : Obligations.LoadsOfAPairAndSp := by
  refine fun s p nn => ⟨⟨encode_mkLdPair nn p, ?_⟩, ⟨rfl, ?_⟩, rfl, ?_⟩
  · rw [exec_mkLdPair, loadPair_eq]
  · rw [exec_ldSpHl, loadSpHl_eq]
  · rw [exec_ldIndN16Sp, storeSp_eq]

/-! ## PUSH and POP -/

theorem pushPair_eq (p : StackPair) (s : State) : pushPair p s = past
    (busWrite (busWrite s (s.cpu.sp - 1#16) (hiByte (s.cpu.stackPair p))) (s.cpu.sp - 2#16)
      (loByte (s.cpu.stackPair p)))
    { s.cpu with sp := s.cpu.sp - 2#16 } 1#16 16 := by
  rw [pushPair, push16_eq]
  rfl

/-- SP is no part of a stack pair, so POP may set the pair before or after it moves SP. -/
theorem popPair_eq (p : StackPair) (s : State) : popPair p s =
    past (busRead (busRead s s.cpu.sp).2 (s.cpu.sp + 1#16)).2
      { s.cpu.setStackPair p
          (joinBytes (busRead (busRead s s.cpu.sp).2 (s.cpu.sp + 1#16)).1 (busRead s s.cpu.sp).1) with
        sp := s.cpu.sp + 2#16 } 1#16 12 := by
  rw [popPair, pop16_eq]
  cases p <;> rfl

theorem encode_mkPush (p : StackPair) : encode (.mkPush p) = [byte (0xC5 + 16 * codeStackPair p)] := by
  cases p <;> rfl

theorem encode_mkPop (p : StackPair) : encode (.mkPop p) = [byte (0xC1 + 16 * codeStackPair p)] := by
  cases p <;> rfl

/-- Settles O15: a push is its two writes, a pop its two reads and the write of the pair. -/
theorem pushAndPop : Obligations.PushAndPop := by
  refine fun s p => ⟨⟨encode_mkPush p, ?_⟩, encode_mkPop p, ?_⟩
  · rw [exec_mkPush, pushPair_eq]
  · rw [exec_mkPop, popPair_eq]

/-! ## PUSH, then POP -/

theorem ofByte_toByte (f : Flags) : Flags.ofByte f.toByte = f := by
  obtain ⟨z, n, h, c⟩ := f
  cases z <;> cases n <;> cases h <;> cases c <;> rfl

/-- A pair written with its own value; F's low nibble, which AF would lose, is 0 (10 R36). -/
theorem Cpu.setStackPair_stackPair (c : Cpu) (p : StackPair) : c.setStackPair p (c.stackPair p) = c := by
  cases p with
  | bc | de | hl =>
    simp only [Cpu.setStackPair, Cpu.stackPair, Cpu.setHl, Cpu.bc, Cpu.de, Cpu.hl, hiByte_joinBytes, loByte_joinBytes]
  | af => simp only [Cpu.setStackPair, Cpu.stackPair, Cpu.af, hiByte_joinBytes, loByte_joinBytes, ofByte_toByte]

/-- RAM reads the byte it keeps, video RAM outside Drawing only (20 R97 to R101, R109). -/
theorem busValue_of_storesAt {s : State} {a : Word} {k : Nat} (h : StoresAt a k)
    (hvram : s.ppu.mode = .drawing → 0xA000 ≤ a.toNat) : busValue s a = s.mem.read k := by
  simp only [StoresAt] at h
  obtain ⟨hv | hplain, hk⟩ | ⟨hecho, hk⟩ := h
  · have hmode : s.ppu.mode ≠ .drawing := fun hm => by have := hvram hm; omega
    rw [← busRead_fst, busRead_of_vram hv, if_neg hmode, hk]
  · rw [← busRead_fst, busRead_of_plainRam hplain, hk]
  · simp only [busValue, busDecode_of_echo hecho, hk]

/-- Neighbouring addresses that store do so in two bytes. -/
theorem storesAt_below_sp_ne {sp : Word} {k k' : Nat} (hhi : StoresAt (sp - 1#16) k) (hlo : StoresAt (sp - 2#16) k') :
    k ≠ k' := by
  simp only [StoresAt] at hhi hlo
  have hnext : (sp - 1#16).toNat = (sp - 2#16).toNat + 1 := by bv_omega
  omega

/-- A push to storage leaves the high byte at one key and the low byte at the other. -/
theorem push16_stores {s : State} {k k' : Nat} (hwf : s.mem.wf = true) (hhi : StoresAt (s.cpu.sp - 1#16) k)
    (hlo : StoresAt (s.cpu.sp - 2#16) k') (v : Word) :
    (push16 s v).mem.read k = hiByte v ∧ (push16 s v).mem.read k' = loByte v := by
  obtain ⟨-, -, hhigh⟩ := busWrite_of_storesAt hhi s (hiByte v)
  obtain ⟨-, hother, hlow⟩ := busWrite_of_storesAt hlo (busWrite s (s.cpu.sp - 1#16) (hiByte v)) (loByte v)
  rw [push16_eq]
  exact ⟨(hother k (storesAt_below_sp_ne hhi hlo)).trans (hhigh hwf), hlow (busWrite_wf s _ _ hwf)⟩

/-- What a pop from storage gives. -/
theorem pop16_of_storesAt {s : State} {k k' : Nat} (hlo : StoresAt s.cpu.sp k') (hhi : StoresAt (s.cpu.sp + 1#16) k)
    (hvram : s.ppu.mode = .drawing → 0xA000 ≤ s.cpu.sp.toNat ∧ 0xA000 ≤ (s.cpu.sp + 1#16).toNat) :
    (pop16 s).1 = joinBytes (s.mem.read k) (s.mem.read k') := by
  have hlow : busValue s s.cpu.sp = s.mem.read k' := busValue_of_storesAt hlo fun hm => (hvram hm).1
  have hhigh : busValue (busReadEffect s s.cpu.sp) (s.cpu.sp + 1#16) = s.mem.read k := by
    have hmode : (busReadEffect s s.cpu.sp).ppu.mode = .drawing → 0xA000 ≤ (s.cpu.sp + 1#16).toNat := by
      rw [busReadEffect_ppu]
      exact fun hm => (hvram hm).2
    rw [busValue_of_storesAt hhi hmode, busReadEffect_mem]
  rw [pop16_eq, hlow, hhigh]

/-- The word PUSH stored is the one a pop then gives. -/
theorem pop16_pushPair {s : State} {k k' : Nat} (p : StackPair) (hwf : s.mem.wf = true)
    (hhi : StoresAt (s.cpu.sp - 1#16) k) (hlo : StoresAt (s.cpu.sp - 2#16) k')
    (hvram : s.ppu.mode = .drawing → 0xA000 ≤ (s.cpu.sp - 2#16).toNat ∧ 0xA000 ≤ (s.cpu.sp - 1#16).toNat) :
    (pop16 (pushPair p s)).1 = s.cpu.stackPair p := by
  have hsp : (pushPair p s).cpu.sp = s.cpu.sp - 2#16 := by rw [pushPair_cpu]
  have hnext : s.cpu.sp - 2#16 + 1#16 = s.cpu.sp - 1#16 := by bv_omega
  have hmode : (pushPair p s).ppu.mode = s.ppu.mode := by simp [pushPair, push16_eq]
  obtain ⟨hhigh, hlow⟩ := push16_stores hwf hhi hlo (s.cpu.stackPair p)
  rw [pop16_of_storesAt (k := k) (k' := k') (by rwa [hsp]) (by rwa [hsp, hnext]) (by rwa [hmode, hsp, hnext]),
    pushPair, State.advance_mem, hhigh, hlow, joinBytes_hiByte_loByte]

/-- SP, PC and the tick report are no part of a stack pair. -/
theorem Cpu.stackPair_setSpPcTicks (c : Cpu) (p : StackPair) (sp pc : Word) (ticks : Nat) :
    ({ c with sp := sp, pc := pc, ticks := ticks } : Cpu).stackPair p = c.stackPair p := by
  cases p <;> rfl

/-- Settles O16: POP writes the pair with the value it already holds, and SP comes back up by 2. -/
theorem pushThenPopRestores : Obligations.PushThenPopRestores := by
  intro s t u p k k' hwf hhi hlo hvram hpush hpop
  obtain rfl : pushPair p s = t := Host.Outcome.next.inj ((exec_mkPush p s).symm.trans hpush)
  obtain rfl : popPair p (pushPair p s) = u := Host.Outcome.next.inj ((exec_mkPop p _).symm.trans hpop)
  have hpair : (pushPair p s).cpu.stackPair p = s.cpu.stackPair p := by
    rw [pushPair_cpu, Cpu.stackPair_setSpPcTicks]
  have hset : (pushPair p s).cpu.setStackPair p (pop16 (pushPair p s)).1 = (pushPair p s).cpu := by
    rw [pop16_pushPair p hwf hhi hlo hvram, ← hpair, Cpu.setStackPair_stackPair]
  have hsp : s.cpu.sp - 2#16 + 2#16 = s.cpu.sp := BitVec.sub_add_cancel _ _
  rw [popPair_cpu, hset, Cpu.stackPair_setSpPcTicks, hpair, pushPair_cpu]
  exact ⟨rfl, hsp, rfl⟩

end Sys2Proof.Machine
end

section
/-! PROOFS. 8-bit arithmetic and logic (spec/43_alu_8bit.md R240 to R272). -/

namespace Sys2Proof.Machine

open Sys2Proof.Rules

/-! ## Results and flags, by the rules' numbers -/

theorem zf_iff (r : Byte) : zf r = true ↔ r.toNat = 0 :=
  decide_eq_true_iff.trans BitVec.toNat_inj.symm

theorem add8_sumFlags (a b : Byte) (cin : Bool) : SumFlags a b cin.toNat (add8 a b cin).1
    { z := zf (add8 a b cin).1, n := false, h := (add8 a b cin).2.1, c := (add8 a b cin).2.2 } :=
  ⟨BitVec.toNat_ofNat _ _, zf_iff _, rfl, decide_eq_true_iff, decide_eq_true_iff⟩

theorem sub8_differenceFlags (a b : Byte) (cin : Bool) : DifferenceFlags a b cin.toNat (sub8 a b cin).1
    { z := zf (sub8 a b cin).1, n := true, h := (sub8 a b cin).2.1, c := (sub8 a b cin).2.2 } := by
  have hresult : ((sub8 a b cin).1.toNat : Int) = ((a.toNat : Int) - b.toNat - cin.toNat) % 256 := by
    rw [sub8, BitVec.toNat_ofInt]
    omega
  exact ⟨hresult, zf_iff _, rfl, decide_eq_true_iff, decide_eq_true_iff⟩

theorem aluResult_rule (op : AluOp) (a v : Byte) (cin : Bool) :
    AluRule op a v cin (aluResult op a v cin).1 (aluResult op a v cin).2 := by
  have hcin : cin.toNat = if cin then 1 else 0 := by cases cin <;> rfl
  cases op with
  | add => exact add8_sumFlags a v false
  | adc =>
    rw [AluRule, ← hcin]
    exact add8_sumFlags a v cin
  | sub => exact sub8_differenceFlags a v false
  | sbc =>
    rw [AluRule, ← hcin]
    exact sub8_differenceFlags a v cin
  | and => exact ⟨fun _ => BitVec.getLsbD_and, zf_iff _, rfl, rfl, rfl⟩
  | xor => exact ⟨fun _ => BitVec.getLsbD_xor, zf_iff _, rfl, rfl, rfl⟩
  | or => exact ⟨fun _ => BitVec.getLsbD_or, zf_iff _, rfl, rfl, rfl⟩
  | cp => exact ⟨rfl, _, sub8_differenceFlags a v false⟩

theorem inc8_rule (v : Byte) (f : Flags) : IncRule v f (inc8 v f).1 (inc8 v f).2 :=
  ⟨BitVec.toNat_add _ _, zf_iff _, rfl, decide_eq_true_iff, rfl⟩

theorem dec8_rule (v : Byte) (f : Flags) : DecRule v f (dec8 v f).1 (dec8 v f).2 := by
  have hresult : (v - 1#8).toNat = (v.toNat + 255) % 256 := by bv_omega
  exact ⟨hresult, zf_iff _, rfl, decide_eq_true_iff, rfl⟩

/-- The high correction leaves the low nibble, so the low correction may test A itself (43 R269). -/
theorem daaAdd_rule (a : Byte) (f : Flags) :
    (daaAdd a f).1.toNat = (a.toNat + (if f.c = true ∨ 0x99 < a.toNat then 0x60 else 0) +
      (if f.h = true ∨ 9 < a.toNat % 16 then 0x06 else 0)) % 256 ∧
    ((daaAdd a f).2 = true ↔ f.c = true ∨ 0x99 < a.toNat) := by
  have hnibble : (a + 0x60#8).toNat % 16 = a.toNat % 16 := by bv_omega
  by_cases hhigh : f.c = true ∨ 0x99 < a.toNat
  · simp only [daaAdd, Bool.or_eq_true, decide_eq_true_eq, if_pos hhigh, hnibble]
    refine ⟨?_, iff_of_true trivial hhigh⟩
    split <;> bv_omega
  · simp only [daaAdd, Bool.or_eq_true, decide_eq_true_eq, if_neg hhigh]
    refine ⟨?_, iff_of_false (fun hc => hhigh (.inl hc)) hhigh⟩
    split <;> bv_omega

theorem daaSub_rule (a : Byte) (f : Flags) :
    ((daaSub a f).1.toNat : Int) =
      ((a.toNat : Int) - (if f.c = true then 0x60 else 0) - (if f.h = true then 0x06 else 0)) % 256 ∧
    (daaSub a f).2 = f.c := by
  refine ⟨?_, rfl⟩
  unfold daaSub
  dsimp only
  split <;> split <;> bv_omega

theorem daaResult_rule (a : Byte) (f : Flags) : DaaRule a f (daaResult a f).1 (daaResult a f).2 := by
  refine ⟨fun hn => ?_, fun hn => ?_, zf_iff _, rfl, rfl⟩
  · rw [daaResult, hn]
    exact daaAdd_rule a f
  · rw [daaResult, hn]
    exact daaSub_rule a f

/-! ## The shared operations, in the rules' shape -/

theorem aluReg_eq (op : AluOp) (r : Reg8) (s : State) : aluReg op r s = past s
    { s.cpu with a := (aluResult op s.cpu.a (s.cpu.reg r) s.cpu.flags.c).1,
                 flags := (aluResult op s.cpu.a (s.cpu.reg r) s.cpu.flags.c).2 } 1#16 4 := rfl

theorem aluImm_eq (op : AluOp) (n : Byte) (s : State) : aluImm op n s = past s
    { s.cpu with a := (aluResult op s.cpu.a n s.cpu.flags.c).1,
                 flags := (aluResult op s.cpu.a n s.cpu.flags.c).2 } 2#16 8 := rfl

theorem aluHl_eq (op : AluOp) (s : State) : aluHl op s = past (busRead s s.cpu.hl).2
    { s.cpu with a := (aluResult op s.cpu.a (busRead s s.cpu.hl).1 s.cpu.flags.c).1,
                 flags := (aluResult op s.cpu.a (busRead s s.cpu.hl).1 s.cpu.flags.c).2 } 1#16 8 :=
  busRead_advance s s.cpu.hl
    (fun c => { c with a := (aluResult op c.a (busRead s s.cpu.hl).1 c.flags.c).1,
                       flags := (aluResult op c.a (busRead s s.cpu.hl).1 c.flags.c).2 }) 1#16 8

theorem incReg_eq (r : Reg8) (s : State) : incReg r s = past s
    { s.cpu.setReg r (inc8 (s.cpu.reg r) s.cpu.flags).1 with
      flags := (inc8 (s.cpu.reg r) s.cpu.flags).2 } 1#16 4 := rfl

theorem decReg_eq (r : Reg8) (s : State) : decReg r s = past s
    { s.cpu.setReg r (dec8 (s.cpu.reg r) s.cpu.flags).1 with
      flags := (dec8 (s.cpu.reg r) s.cpu.flags).2 } 1#16 4 := rfl

/-- A byte written back to HL after HL was read, and the flags set: the read leaves the CPU as it was. -/
theorem rewriteHl_advance (s : State) (v : Byte) (f : Flags) (len : Word) (n : Nat) :
    ((writeHl (readHl s).2 v).mapCpu (fun c => { c with flags := f })).advance len n =
      past (busWrite (busRead s s.cpu.hl).2 s.cpu.hl v) { s.cpu with flags := f } len n := by
  rw [writeHl, readHl, busWrite_advance, busRead_snd, busReadEffect_cpu]

theorem readHl_cpu (s : State) : (readHl s).2.cpu = s.cpu := busReadEffect_cpu s s.cpu.hl

theorem incHl_eq (s : State) : incHl s = past
    (busWrite (busRead s s.cpu.hl).2 s.cpu.hl (inc8 (busRead s s.cpu.hl).1 s.cpu.flags).1)
    { s.cpu with flags := (inc8 (busRead s s.cpu.hl).1 s.cpu.flags).2 } 1#16 12 := by
  rw [← rewriteHl_advance, ← congrArg Cpu.flags (readHl_cpu s)]
  rfl

theorem decHl_eq (s : State) : decHl s = past
    (busWrite (busRead s s.cpu.hl).2 s.cpu.hl (dec8 (busRead s s.cpu.hl).1 s.cpu.flags).1)
    { s.cpu with flags := (dec8 (busRead s s.cpu.hl).1 s.cpu.flags).2 } 1#16 12 := by
  rw [← rewriteHl_advance, ← congrArg Cpu.flags (readHl_cpu s)]
  rfl

theorem daaOp_eq (s : State) : daaOp s = past s
    { s.cpu with a := (daaResult s.cpu.a s.cpu.flags).1, flags := (daaResult s.cpu.a s.cpu.flags).2 } 1#16 4 := rfl

/-! ## The encodings of the families, at every operand code (30 R145, R149) -/

theorem encode_mkAluReg (op : AluOp) (r : Reg8) :
    encode (.mkAluReg op r) = [byte (0x80 + 8 * codeAlu op + code8 r)] := by
  cases op <;> cases r <;> rfl

theorem encode_mkAluHl (op : AluOp) : encode (.mkAluHl op) = [byte (0x86 + 8 * codeAlu op)] := by
  cases op <;> rfl

theorem encode_mkAluImm (n : Byte) (op : AluOp) : encode (.mkAluImm n op) = [byte (0xC6 + 8 * codeAlu op), n] := by
  cases op <;> rfl

theorem encode_mkInc (r : Reg8) : encode (.mkInc r) = [byte (0x04 + 8 * code8 r)] := by
  cases r <;> rfl

theorem encode_mkDec (r : Reg8) : encode (.mkDec r) = [byte (0x05 + 8 * code8 r)] := by
  cases r <;> rfl

/-! ## The instructions -/

/-- Settles O17: the family runs its operation on the register, and `aluResult` is the rule. -/
theorem aluOnARegister : Obligations.AluOnARegister := by
  refine fun s op r => ⟨encode_mkAluReg op r, _, _, aluResult_rule op s.cpu.a (s.cpu.reg r) s.cpu.flags.c, ?_⟩
  rw [exec_mkAluReg, aluReg_eq]

/-- Settles O18: the family reads HL once, and `aluResult` of the byte is the rule. -/
theorem aluOnTheByteAtHl : Obligations.AluOnTheByteAtHl := by
  refine fun s op =>
    ⟨encode_mkAluHl op, _, _, aluResult_rule op s.cpu.a (busRead s s.cpu.hl).1 s.cpu.flags.c, ?_⟩
  rw [exec_mkAluHl, aluHl_eq]

/-- Settles O19: the family runs its operation on the operand byte, and `aluResult` is the rule. -/
theorem aluOnAnImmediate : Obligations.AluOnAnImmediate := by
  refine fun s op n => ⟨encode_mkAluImm n op, _, _, aluResult_rule op s.cpu.a n s.cpu.flags.c, ?_⟩
  rw [exec_mkAluImm, aluImm_eq]

/-- Settles O20: the flags are those of the byte read, in a register and at HL alike. -/
theorem incrementAndDecrement : Obligations.IncrementAndDecrement := by
  refine fun s r => ⟨⟨encode_mkInc r, _, _, inc8_rule (s.cpu.reg r) s.cpu.flags, ?_⟩,
    ⟨encode_mkDec r, _, _, dec8_rule (s.cpu.reg r) s.cpu.flags, ?_⟩,
    ⟨rfl, _, _, inc8_rule (busRead s s.cpu.hl).1 s.cpu.flags, ?_⟩,
    rfl, _, _, dec8_rule (busRead s s.cpu.hl).1 s.cpu.flags, ?_⟩
  · rw [exec_mkInc, incReg_eq]
  · rw [exec_mkDec, decReg_eq]
  · rw [exec_incIndHl, incHl_eq]
  · rw [exec_decIndHl, decHl_eq]

/-- Settles O21: `daaResult` is the rule, and the other three are their updates of A and the flags. -/
theorem daaCplScfCcf : Obligations.DaaCplScfCcf := by
  refine fun s => ⟨⟨rfl, _, _, daaResult_rule s.cpu.a s.cpu.flags, ?_⟩, rfl, rfl, rfl,
    exec_cpl s, exec_scf s, exec_ccf s⟩
  rw [exec_daa, daaOp_eq]

end Sys2Proof.Machine
end

section
/-! PROOFS. 16-bit arithmetic (spec/44_alu_16bit.md R280 to R282). -/

namespace Sys2Proof.Machine

open Sys2Proof.Rules

/-! ## Results and flags, by the rules' numbers -/

theorem addHl16_rule (a b : Word) (f : Flags) : AddHlRule a b f (addHl16 a b f).1 (addHl16 a b f).2 :=
  ⟨BitVec.toNat_add _ _, rfl, rfl, decide_eq_true_iff, decide_eq_true_iff⟩

/-- A sum counted in numbers and reduced once is the sum of the words. -/
theorem ofNat_toNat_add (v : Word) (n : Nat) : BitVec.ofNat 16 (v.toNat + n) = v + BitVec.ofNat 16 n := by
  rw [BitVec.ofNat_add, BitVec.ofNat_toNat, BitVec.setWidth_eq]

/-! ## The shared operations, in the rules' shape -/

theorem addHlPair_eq (p : Pair) (s : State) : addHlPair p s = past s
    { s.cpu with h := hiByte (addHl16 s.cpu.hl (s.cpu.pair p) s.cpu.flags).1,
                 l := loByte (addHl16 s.cpu.hl (s.cpu.pair p) s.cpu.flags).1,
                 flags := (addHl16 s.cpu.hl (s.cpu.pair p) s.cpu.flags).2 } 1#16 8 := rfl

theorem incPair_eq (p : Pair) (s : State) :
    incPair p s = past s (s.cpu.setPair p (BitVec.ofNat 16 ((s.cpu.pair p).toNat + 1))) 1#16 8 := by
  rw [ofNat_toNat_add]
  rfl

/-- The pair down by one is the pair with 65535 added (44 R282). -/
theorem decPair_eq (p : Pair) (s : State) :
    decPair p s = past s (s.cpu.setPair p (BitVec.ofNat 16 ((s.cpu.pair p).toNat + 65535))) 1#16 8 := by
  have hminus : 65535#16 = -1#16 := rfl
  rw [ofNat_toNat_add, hminus, ← BitVec.sub_eq_add_neg]
  rfl

/-! ## The encodings of the families, at every pair code (30 R146) -/

theorem encode_mkAddHl (p : Pair) : encode (.mkAddHl p) = [byte (0x09 + 16 * codePair p)] := by
  cases p <;> rfl

theorem encode_mkIncPair (p : Pair) : encode (.mkIncPair p) = [byte (0x03 + 16 * codePair p)] := by
  cases p <;> rfl

theorem encode_mkDecPair (p : Pair) : encode (.mkDecPair p) = [byte (0x0B + 16 * codePair p)] := by
  cases p <;> rfl

/-! ## The instructions -/

/-- Settles O22: `addHl16` is the rule of the sum, and the steps by one write the pair alone. -/
theorem pairArithmetic : Obligations.PairArithmetic := by
  refine fun s p => ⟨⟨encode_mkAddHl p, _, _, addHl16_rule s.cpu.hl (s.cpu.pair p) s.cpu.flags, ?_⟩,
    ⟨encode_mkIncPair p, ?_⟩, encode_mkDecPair p, ?_⟩
  · rw [exec_mkAddHl, addHlPair_eq]
  · rw [exec_mkIncPair, incPair_eq]
  · rw [exec_mkDecPair, decPair_eq]

end Sys2Proof.Machine
end

section
/-! PROOFS. Rotates, shifts and single bits (spec/45_rotates_shifts_bits.md R290 to R316). -/

namespace Sys2Proof.Machine

open Sys2Proof.Rules

/-! ## Results and flags, by the rules' numbers -/

theorem getLsbD_eq_decide_div_mod (v : Byte) (i : Nat) : v.getLsbD i = decide (v.toNat / 2 ^ i % 2 = 1) :=
  Nat.testBit_eq_decide_div_mod_eq

/-- Bits `x` above bits `y`, by numbers. -/
theorem toNat_append_eq_add {m n : Nat} (x : BitVec m) (y : BitVec n) : (x ++ y).toNat = x.toNat * 2 ^ n + y.toNat := by
  rw [BitVec.toNat_append, ← Nat.shiftLeft_add_eq_or_of_lt y.isLt, Nat.shiftLeft_eq]

theorem toNat_extractLsb' (v : Byte) (start len : Nat) :
    (v.extractLsb' start len).toNat = v.toNat / 2 ^ start % 2 ^ len := by
  rw [BitVec.extractLsb'_toNat, Nat.shiftRight_eq_div_pow]

/-- The carry out of a shift left. -/
theorem getLsbD_seven_iff (v : Byte) : v.getLsbD 7 = true ↔ 128 ≤ v.toNat := by
  have hv := v.isLt
  rw [getLsbD_eq_decide_div_mod, decide_eq_true_iff]
  omega

/-- The carry out of a shift right. -/
theorem getLsbD_zero_iff (v : Byte) : v.getLsbD 0 = true ↔ v.toNat % 2 = 1 := by
  rw [getLsbD_eq_decide_div_mod, decide_eq_true_iff, Nat.pow_zero, Nat.div_one]

theorem toNat_ofBool_eq_ite (cy : Bool) : (BitVec.ofBool cy).toNat = if cy then 1 else 0 := by
  cases cy <;> rfl

theorem rotResult_rule (op : RotOp) (v : Byte) (cy : Bool) :
    RotRule op v cy (rotResult op v cy).1 (rotResult op v cy).2 := by
  have hv := v.isLt
  cases op <;> simp only [RotRule, rotResult, toNat_append_eq_add, toNat_extractLsb', toNat_ofBool_eq_ite,
    BitVec.toNat_zero]
  case rlc => exact ⟨by omega, getLsbD_seven_iff v⟩
  case rrc => exact ⟨by omega, getLsbD_zero_iff v⟩
  case rl => exact ⟨by omega, getLsbD_seven_iff v⟩
  case rr => exact ⟨by omega, getLsbD_zero_iff v⟩
  case sla => exact ⟨by omega, getLsbD_seven_iff v⟩
  case sra => exact ⟨by omega, getLsbD_zero_iff v⟩
  case swap => exact ⟨by omega, trivial⟩
  case srl => exact ⟨by omega, getLsbD_zero_iff v⟩

theorem zf_eq_decide (r : Byte) : zf r = decide (r.toNat = 0) :=
  Bool.eq_iff_iff.mpr ((zf_iff r).trans decide_eq_true_iff.symm)

theorem rotFlags_eq (r : Byte) (c : Bool) :
    rotFlags r c = { z := decide (r.toNat = 0), n := false, h := false, c := c } := by
  rw [rotFlags, zf_eq_decide]

theorem bitTestFlags_eq (v : Byte) (b : Fin 8) (f : Flags) :
    bitTestFlags v b f = { z := decide (v.toNat / 2 ^ b.val % 2 = 0), n := false, h := true, c := f.c } := by
  have hz : (!v.getLsbD b.val) = decide (v.toNat / 2 ^ b.val % 2 = 0) := by
    rw [getLsbD_eq_decide_div_mod, ← decide_not, decide_eq_decide, Nat.mod_two_not_eq_one]
  rw [bitTestFlags, hz]

/-- The mask of RES and SET has the one bit. -/
theorem getLsbD_mask (b : Fin 8) (i : Nat) : (1#8 <<< b.val).getLsbD i = decide (i = b.val) := by
  rw [← BitVec.twoPow_eq, BitVec.getLsbD_twoPow, decide_eq_true b.isLt, Bool.true_and]
  exact decide_eq_decide.mpr eq_comm

theorem getLsbD_setBit (v : Byte) (b : Fin 8) (i : Nat) :
    (setBit v b).getLsbD i = (v.getLsbD i || decide (i = b.val)) := by
  rw [setBit, BitVec.getLsbD_or, getLsbD_mask]

/-- Past the byte's eight bits both sides are false. -/
theorem getLsbD_clearBit (v : Byte) (b : Fin 8) (i : Nat) :
    (clearBit v b).getLsbD i = (v.getLsbD i && decide (i ≠ b.val)) := by
  rw [clearBit, BitVec.getLsbD_and, BitVec.getLsbD_not, getLsbD_mask, decide_not]
  by_cases hi : i < 8
  · rw [decide_eq_true hi, Bool.true_and]
  · rw [BitVec.getLsbD_of_ge v i (Nat.le_of_not_lt hi), Bool.false_and, Bool.false_and]

/-! ## The shared operations, in the rules' shape -/

theorem rotateA_eq (op : RotOp) (s : State) : rotateA op s = past s
    { s.cpu with a := (rotResult op s.cpu.a s.cpu.flags.c).1,
                 flags := { z := false, n := false, h := false, c := (rotResult op s.cpu.a s.cpu.flags.c).2 } }
    1#16 4 := rfl

theorem rotReg_eq (op : RotOp) (r : Reg8) (s : State) : rotReg op r s = past s
    { s.cpu.setReg r (rotResult op (s.cpu.reg r) s.cpu.flags.c).1 with
      flags := rotFlags (rotResult op (s.cpu.reg r) s.cpu.flags.c).1 (rotResult op (s.cpu.reg r) s.cpu.flags.c).2 }
    2#16 8 := rfl

theorem rotHl_eq (op : RotOp) (s : State) : rotHl op s = past
    (busWrite (busRead s s.cpu.hl).2 s.cpu.hl (rotResult op (busRead s s.cpu.hl).1 s.cpu.flags.c).1)
    { s.cpu with flags := rotFlags (rotResult op (busRead s s.cpu.hl).1 s.cpu.flags.c).1
                            (rotResult op (busRead s s.cpu.hl).1 s.cpu.flags.c).2 } 2#16 16 := by
  rw [← rewriteHl_advance, ← congrArg Cpu.flags (readHl_cpu s)]
  rfl

theorem bitTestReg_eq (b : Fin 8) (r : Reg8) (s : State) : bitTestReg b r s = past s
    { s.cpu with flags := bitTestFlags (s.cpu.reg r) b s.cpu.flags } 2#16 8 := rfl

theorem bitTestHl_eq (b : Fin 8) (s : State) : bitTestHl b s = past (busRead s s.cpu.hl).2
    { s.cpu with flags := bitTestFlags (busRead s s.cpu.hl).1 b s.cpu.flags } 2#16 12 :=
  busRead_advance s s.cpu.hl (fun c => { c with flags := bitTestFlags (busRead s s.cpu.hl).1 b c.flags }) 2#16 12

theorem bitResetReg_eq (b : Fin 8) (r : Reg8) (s : State) :
    bitResetReg b r s = past s (s.cpu.setReg r (clearBit (s.cpu.reg r) b)) 2#16 8 := rfl

theorem bitSetReg_eq (b : Fin 8) (r : Reg8) (s : State) :
    bitSetReg b r s = past s (s.cpu.setReg r (setBit (s.cpu.reg r) b)) 2#16 8 := rfl

/-- A byte written back to HL after HL was read, the flags kept. -/
theorem rewriteHl_advance_keepFlags (s : State) (v : Byte) (len : Word) (n : Nat) :
    (writeHl (readHl s).2 v).advance len n = past (busWrite (busRead s s.cpu.hl).2 s.cpu.hl v) s.cpu len n := by
  rw [writeHl, readHl_cpu]
  exact (busWrite_advance (readHl s).2 s.cpu.hl v id len n).trans (congrArg (past _ · len n) (readHl_cpu s))

theorem bitResetHl_eq (b : Fin 8) (s : State) : bitResetHl b s = past
    (busWrite (busRead s s.cpu.hl).2 s.cpu.hl (clearBit (busRead s s.cpu.hl).1 b)) s.cpu 2#16 16 :=
  rewriteHl_advance_keepFlags s _ 2#16 16

theorem bitSetHl_eq (b : Fin 8) (s : State) : bitSetHl b s = past
    (busWrite (busRead s s.cpu.hl).2 s.cpu.hl (setBit (busRead s s.cpu.hl).1 b)) s.cpu 2#16 16 :=
  rewriteHl_advance_keepFlags s _ 2#16 16

/-! ## The encodings of the families, at every operand code (30 R144, R145, R149) -/

theorem encode_mkRotReg (op : RotOp) (r : Reg8) :
    encode (.mkRotReg op r) = [0xCB#8, byte (8 * codeRot op + code8 r)] := by
  cases op <;> cases r <;> rfl

theorem encode_mkRotHl (op : RotOp) : encode (.mkRotHl op) = [0xCB#8, byte (8 * codeRot op + 6)] := by
  cases op <;> rfl

theorem encode_mkBitReg (b : Fin 8) (r : Reg8) :
    encode (.mkBitReg b r) = [0xCB#8, byte (0x40 + 8 * b.val + code8 r)] := by
  match b with
  | 0 | 1 | 2 | 3 | 4 | 5 | 6 | 7 => cases r <;> rfl

theorem encode_mkBitHl (b : Fin 8) : encode (.mkBitHl b) = [0xCB#8, byte (0x46 + 8 * b.val)] := by
  match b with
  | 0 | 1 | 2 | 3 | 4 | 5 | 6 | 7 => rfl

theorem encode_mkResReg (b : Fin 8) (r : Reg8) :
    encode (.mkResReg b r) = [0xCB#8, byte (0x80 + 8 * b.val + code8 r)] := by
  match b with
  | 0 | 1 | 2 | 3 | 4 | 5 | 6 | 7 => cases r <;> rfl

theorem encode_mkResHl (b : Fin 8) : encode (.mkResHl b) = [0xCB#8, byte (0x86 + 8 * b.val)] := by
  match b with
  | 0 | 1 | 2 | 3 | 4 | 5 | 6 | 7 => rfl

theorem encode_mkSetReg (b : Fin 8) (r : Reg8) :
    encode (.mkSetReg b r) = [0xCB#8, byte (0xC0 + 8 * b.val + code8 r)] := by
  match b with
  | 0 | 1 | 2 | 3 | 4 | 5 | 6 | 7 => cases r <;> rfl

theorem encode_mkSetHl (b : Fin 8) : encode (.mkSetHl b) = [0xCB#8, byte (0xC6 + 8 * b.val)] := by
  match b with
  | 0 | 1 | 2 | 3 | 4 | 5 | 6 | 7 => rfl

/-! ## The instructions -/

/-- Settles O23: `rotResult` is the rule, and the flags differ in Z alone between the two families. -/
theorem rotatesOfAAndOfARegister : Obligations.RotatesOfAAndOfARegister := by
  refine fun s op r => ⟨fun i b hrow => ?_, encode_mkRotReg op r, _, _,
    rotResult_rule op (s.cpu.reg r) s.cpu.flags.c, ?_⟩
  · have hrotate : encode i = [b] ∧ exec i s = .next (rotateA op s) := by
      simp only [List.mem_cons, Prod.mk.injEq, List.not_mem_nil, or_false] at hrow
      obtain ⟨rfl, rfl, rfl⟩ | ⟨rfl, rfl, rfl⟩ | ⟨rfl, rfl, rfl⟩ | ⟨rfl, rfl, rfl⟩ := hrow
      · exact ⟨rfl, exec_rlca s⟩
      · exact ⟨rfl, exec_rla s⟩
      · exact ⟨rfl, exec_rrca s⟩
      · exact ⟨rfl, exec_rra s⟩
    refine ⟨hrotate.1, _, _, rotResult_rule op s.cpu.a s.cpu.flags.c, ?_⟩
    rw [hrotate.2, rotateA_eq]
  · rw [exec_mkRotReg, rotReg_eq, rotFlags_eq]

/-- Settles O24: the family reads HL once and writes the rotated byte back there. -/
theorem rotatesOfTheByteAtHl : Obligations.RotatesOfTheByteAtHl := by
  refine fun s op =>
    ⟨encode_mkRotHl op, _, _, rotResult_rule op (busRead s s.cpu.hl).1 s.cpu.flags.c, ?_⟩
  rw [exec_mkRotHl, rotHl_eq, rotFlags_eq]

/-- Settles O25: RES and SET write the operand masked at the bit, in a register and at HL alike. -/
theorem bitTestResetSet : Obligations.BitTestResetSet := by
  refine fun s b r => ⟨⟨encode_mkBitReg b r, ?_⟩, ⟨encode_mkBitHl b, ?_⟩,
    ⟨encode_mkResReg b r, _, getLsbD_clearBit (s.cpu.reg r) b, ?_⟩,
    ⟨encode_mkSetReg b r, _, getLsbD_setBit (s.cpu.reg r) b, ?_⟩,
    ⟨encode_mkResHl b, _, getLsbD_clearBit (busRead s s.cpu.hl).1 b, ?_⟩,
    encode_mkSetHl b, _, getLsbD_setBit (busRead s s.cpu.hl).1 b, ?_⟩
  · rw [exec_mkBitReg, bitTestReg_eq, bitTestFlags_eq]
  · rw [exec_mkBitHl, bitTestHl_eq, bitTestFlags_eq]
  · rw [exec_mkResReg, bitResetReg_eq]
  · rw [exec_mkSetReg, bitSetReg_eq]
  · rw [exec_mkResHl, bitResetHl_eq]
  · rw [exec_mkSetHl, bitSetHl_eq]

end Sys2Proof.Machine
end

section
/-! PROOFS. Control flow (spec/46_control_flow.md R330 to R341). -/

namespace Sys2Proof.Machine

open Sys2Proof.Rules

/-! ## The shared operations, in the rules' shape -/

/-- A conditional instruction: one state when its condition holds, the other when it fails (46 R341). -/
theorem exec_byCondition {i : Instr} {cc : Cond} {s taken fall : State}
    (h : exec i s = .next (if condHolds cc s.cpu.flags then taken else fall)) :
    (Holds cc s.cpu.flags → exec i s = .next taken) ∧ (¬ Holds cc s.cpu.flags → exec i s = .next fall) := by
  rw [h, ← condHolds_iff]
  exact ⟨fun hc => by rw [if_pos hc], fun hc => by rw [if_neg hc]⟩

/-- The wrap of the address after the instruction is lost in that of the sum (46 R333). -/
theorem relTarget_rule (pc : Word) (e : Byte) : RelRule pc e (relTarget pc e) := by
  have hsum := toNat_add_sext16 (pc + 2#16) e
  have hnext : (pc + 2#16).toNat = (pc.toNat + 2) % 65536 := BitVec.toNat_add pc 2#16
  rw [RelRule, relTarget]
  omega

theorem push16_jump (s : State) (back target : Word) (n : Nat) : (push16 s back).jump target n = gone
    (busWrite (busWrite s (s.cpu.sp - 1#16) (hiByte back)) (s.cpu.sp - 2#16) (loByte back))
    { s.cpu with sp := s.cpu.sp - 2#16 } target n := by
  rw [push16_eq]
  rfl

/-- A return that leaves IME at `ime`: RETI at true (46 R340). -/
theorem pop16_jump (s : State) (ime : Bool) (n : Nat) :
    ({ (pop16 s).2 with cpu := { (pop16 s).2.cpu with ime := ime } } : State).jump (pop16 s).1 n = gone
      (busRead (busRead s s.cpu.sp).2 (s.cpu.sp + 1#16)).2 { s.cpu with sp := s.cpu.sp + 2#16, ime := ime }
      (joinBytes (busRead (busRead s s.cpu.sp).2 (s.cpu.sp + 1#16)).1 (busRead s s.cpu.sp).1) n := by
  rw [pop16_eq]
  rfl

theorem pop16_jump_keepIme (s : State) (n : Nat) : (pop16 s).2.jump (pop16 s).1 n = gone
    (busRead (busRead s s.cpu.sp).2 (s.cpu.sp + 1#16)).2 { s.cpu with sp := s.cpu.sp + 2#16, ime := s.cpu.ime }
    (joinBytes (busRead (busRead s s.cpu.sp).2 (s.cpu.sp + 1#16)).1 (busRead s s.cpu.sp).1) n := by
  rw [← pop16_jump, ← congrArg Cpu.ime (pop16_cpu s)]

/-! ## The encodings of the families, at every condition code and restart index (30 R148) -/

theorem encode_mkJp (nn : Word) (cc : Cond) :
    encode (.mkJp nn cc) = [byte (0xC2 + 8 * codeCond cc), loByte nn, hiByte nn] := by
  cases cc <;> rfl

theorem encode_mkJr (e : Byte) (cc : Cond) : encode (.mkJr e cc) = [byte (0x20 + 8 * codeCond cc), e] := by
  cases cc <;> rfl

theorem encode_mkCall (nn : Word) (cc : Cond) :
    encode (.mkCall nn cc) = [byte (0xC4 + 8 * codeCond cc), loByte nn, hiByte nn] := by
  cases cc <;> rfl

theorem encode_mkRet (cc : Cond) : encode (.mkRet cc) = [byte (0xC0 + 8 * codeCond cc)] := by
  cases cc <;> rfl

theorem encode_mkRst (y : Fin 8) : encode (.mkRst y) = [byte (0xC7 + 8 * y.val)] := by
  match y with
  | 0 | 1 | 2 | 3 | 4 | 5 | 6 | 7 => rfl

/-! ## The instructions -/

/-- Settles O27: each jump moves PC alone, a conditional one by its condition; `relTarget` is the rule. -/
theorem jumps : Obligations.Jumps :=
  fun s cc nn e => ⟨⟨rfl, exec_jpN16 nn s⟩, ⟨encode_mkJp nn cc, exec_byCondition (exec_mkJp nn cc s)⟩,
    ⟨rfl, exec_jpHl s⟩, relTarget s.cpu.pc e, relTarget_rule s.cpu.pc e, ⟨rfl, exec_jrOff e s⟩,
    encode_mkJr e cc, exec_byCondition (exec_mkJr e cc s)⟩

/-- Settles O28: each call is a push of the return address and a jump. -/
theorem callsPushTheReturnAddress : Obligations.CallsPushTheReturnAddress := by
  intro s cc nn y call
  have hcall (back target : Word) (ticks : Nat) :
      .next ((push16 s back).jump target ticks) = call back target ticks := by rw [push16_jump]
  obtain ⟨htaken, hfall⟩ := exec_byCondition (exec_mkCall nn cc s)
  refine ⟨⟨rfl, ?_⟩, ⟨encode_mkCall nn cc, fun hc => ?_, hfall⟩, encode_mkRst y, ?_⟩
  · rw [exec_callN16, callTo, hcall]
  · rw [htaken hc, callTo, hcall]
  · rw [exec_mkRst, restart, hcall]

/-- Settles O29: each return is a pop and a jump to the word popped, and RETI sets IME between the two. -/
theorem returnsPopThePc : Obligations.ReturnsPopThePc := by
  intro s cc
  obtain ⟨htaken, hfall⟩ := exec_byCondition (exec_mkRet cc s)
  refine ⟨⟨rfl, ?_⟩, ⟨encode_mkRet cc, fun hc => ?_, hfall⟩, rfl, ?_⟩
  · exact (exec_ret s).trans (congrArg _ (pop16_jump_keepIme s 16))
  · exact (htaken hc).trans (congrArg _ (pop16_jump_keepIme s 20))
  · exact (exec_reti s).trans (congrArg _ (pop16_jump s true 16))

end Sys2Proof.Machine
end

section
/-! PROOFS. Requests and the sequencer (spec/60_exceptions.md R357 to R373). -/

namespace Sys2Proof.Machine

open Sys2Proof.Rules

/-! ## Requests -/

theorem Interrupt.index_lt (k : Interrupt) : k.index < 5 := by
  cases k <;> decide

/-- Every bit position of IF is some source's. -/
theorem Interrupt.exists_index_eq {k : Nat} (h : k < 5) : ∃ i : Interrupt, i.index = k := by
  match k, h with
  | 0, _ => exact ⟨.vBlank, rfl⟩
  | 1, _ => exact ⟨.lcdStat, rfl⟩
  | 2, _ => exact ⟨.timer, rfl⟩
  | 3, _ => exact ⟨.serial, rfl⟩
  | 4, _ => exact ⟨.joypad, rfl⟩

/-- A source's mask has its bit alone. -/
theorem Interrupt.getLsbD_mask (k : Interrupt) (j : Nat) : k.mask.getLsbD j = decide (j = k.index) := by
  rw [Interrupt.mask, ← BitVec.twoPow_eq, BitVec.getLsbD_twoPow, decide_eq_true k.index_lt, Bool.true_and]
  exact decide_eq_decide.mpr eq_comm

/-- A request ORs the source's bit into IF. -/
theorem getLsbD_trigger (s : State) (k : Interrupt) (j : Nat) :
    (s.trigger k).irq.request.getLsbD j = (s.irq.request.getLsbD j || decide (j = k.index)) := by
  rw [State.trigger_irq, BitVec.getLsbD_or, k.getLsbD_mask]

/-- The served bit alone is cleared (60 R368). -/
theorem getLsbD_and_not_mask (r : BitVec 5) (k : Interrupt) (j : Nat) :
    (r &&& ~~~k.mask).getLsbD j = (r.getLsbD j && decide (j ≠ k.index)) := by
  rw [BitVec.getLsbD_and, BitVec.getLsbD_not, k.getLsbD_mask, decide_not]
  by_cases hj : j < 5
  · rw [decide_eq_true hj, Bool.true_and]
  · rw [BitVec.getLsbD_of_ge r j (Nat.le_of_not_lt hj), Bool.false_and, Bool.false_and]

theorem trigger_self (s : State) (k : Interrupt) : (s.trigger k).trigger k = s.trigger k := by
  simp only [State.trigger, BitVec.or_assoc, BitVec.or_self]

theorem trigger_comm (s : State) (k k' : Interrupt) : (s.trigger k).trigger k' = (s.trigger k').trigger k := by
  simp only [State.trigger, BitVec.or_assoc, BitVec.or_comm k.mask]

/-- Settles O33: a request ORs a mask of one bit into IF. -/
theorem triggerSetsOneRequestBit : Obligations.TriggerSetsOneRequestBit :=
  fun s k k' => ⟨getLsbD_trigger s k, rfl, trigger_self s k, trigger_comm s k k'⟩

/-! ## The transitions of the sequencer -/

theorem sequencerStep_of_taken {s : State} (h : s.irq.dispatch = .idle)
    (htaken : s.cpu.ime = true ∧ s.irq.request &&& s.irq.enable ≠ 0#5) :
    sequencerStep s = { s with cpu := { s.cpu with ime := false }, irq := { s.irq with dispatch := .nop0 } } := by
  rw [← pending_iff] at htaken
  simp only [sequencerStep, h]
  exact if_pos (by simpa using htaken)

theorem sequencerStep_of_not_taken {s : State} (h : s.irq.dispatch = .idle)
    (hnot : ¬ (s.cpu.ime = true ∧ s.irq.request &&& s.irq.enable ≠ 0#5)) : sequencerStep s = s := by
  rw [← pending_iff] at hnot
  simp only [sequencerStep, h]
  exact if_neg (by simpa using hnot)

theorem sequencerStep_of_nop0 {s : State} (h : s.irq.dispatch = .nop0) :
    sequencerStep s = { s with irq := { s.irq with dispatch := .nop1 } } := by
  simp only [sequencerStep, h, State.setDispatch]

theorem sequencerStep_of_nop1 {s : State} (h : s.irq.dispatch = .nop1) :
    sequencerStep s = { s with irq := { s.irq with dispatch := .pcStore0 } } := by
  simp only [sequencerStep, h, State.setDispatch]

/-- The high byte of PC is pushed first (60 R366). -/
theorem sequencerStep_of_pcStore0 {s : State} (h : s.irq.dispatch = .pcStore0) :
    sequencerStep s =
      { busWrite s (s.cpu.sp - 1#16) (BitVec.ofNat 8 (s.cpu.pc.toNat / 256)) with
        cpu := { s.cpu with sp := s.cpu.sp - 1#16 }
        irq := { (busWrite s (s.cpu.sp - 1#16) (BitVec.ofNat 8 (s.cpu.pc.toNat / 256))).irq with
          dispatch := .pcStore1 } } := by
  simp only [sequencerStep, h, pushByte_eq, hiByte_eq_ofNat, State.setDispatch]

/-- The low byte of PC follows (60 R367). -/
theorem sequencerStep_of_pcStore1 {s : State} (h : s.irq.dispatch = .pcStore1) :
    sequencerStep s =
      { busWrite s (s.cpu.sp - 1#16) (BitVec.ofNat 8 s.cpu.pc.toNat) with
        cpu := { s.cpu with sp := s.cpu.sp - 1#16 }
        irq := { (busWrite s (s.cpu.sp - 1#16) (BitVec.ofNat 8 s.cpu.pc.toNat)).irq with dispatch := .pcSet } } := by
  simp only [sequencerStep, h, pushByte_eq, loByte_eq_ofNat, State.setDispatch]

/-- The source chosen is the one whose index is the least set bit (60 R368, R373). -/
theorem highestPriority_of_least {m : BitVec 5} (k : Interrupt) (hset : m.getLsbD k.index = true)
    (hleast : ∀ j, j < k.index → m.getLsbD j = false) : highestPriority m = some k := by
  cases k <;> simp only [Interrupt.index] at hset hleast <;>
    simp (disch := decide) only [highestPriority, hset, hleast, reduceIte, Bool.false_eq_true]

theorem sequencerStep_of_served {s : State} (h : s.irq.dispatch = .pcSet) (k : Interrupt)
    (hset : (s.irq.request &&& s.irq.enable).getLsbD k.index = true)
    (hleast : ∀ j, j < k.index → (s.irq.request &&& s.irq.enable).getLsbD j = false) :
    sequencerStep s =
      { s with cpu := { s.cpu with pc := BitVec.ofNat 16 (0x0040 + 8 * k.index) }
               irq := { s.irq with request := s.irq.request &&& ~~~k.mask, dispatch := .idle } } := by
  simp only [sequencerStep, h, enterHandler, Irq.pendingMask, highestPriority_of_least k hset hleast,
    Interrupt.vector]

theorem sequencerStep_of_none_served {s : State} (h : s.irq.dispatch = .pcSet)
    (hnone : s.irq.request &&& s.irq.enable = 0#5) :
    sequencerStep s = { s with cpu := { s.cpu with pc := 0x0000#16 }, irq := { s.irq with dispatch := .idle } } := by
  have hchoice : highestPriority 0#5 = none := rfl
  simp only [sequencerStep, h, enterHandler, Irq.pendingMask, hnone, hchoice]

/-- Settles O31: one transition for each state of the sequencer. -/
theorem sequencerTransitions : Obligations.SequencerTransitions := by
  intro s
  refine ⟨sequencerStep_of_taken, sequencerStep_of_not_taken, sequencerStep_of_nop0, sequencerStep_of_nop1,
    sequencerStep_of_pcStore0, sequencerStep_of_pcStore1, fun h => ⟨fun k hk hset hleast => ?_,
    sequencerStep_of_none_served h⟩⟩
  obtain ⟨i, rfl⟩ := Interrupt.exists_index_eq hk
  exact ⟨_, getLsbD_and_not_mask s.irq.request i, sequencerStep_of_served h i hset hleast⟩

/-! ## The six steps -/

/-- A state between two transitions of a dispatch begun in `s`: memory and SP as they stand, and the sequencer at
`d`. -/
def midDispatch (s : State) (mem : Memory) (sp : Word) (d : DispatchState) : State :=
  { s with
    cpu := { s.cpu with sp := sp, ime := false, ticks := 4 }
    irq := { s.irq with dispatch := d }
    mem := mem }

/-- One CPU step of the dispatch, before `n` more. -/
theorem cpuSteps_midDispatch {s t : State} {mem : Memory} {sp : Word} {d : DispatchState} (n : Nat)
    (hhalted : s.cpu.halted = false) (hd : d ≠ .idle) (hstep : sequencerStep (midDispatch s mem sp d) = t) :
    cpuSteps (n + 1) (midDispatch s mem sp d) = cpuSteps n (t.spend 4) := by
  have hcpu : cpuStep (midDispatch s mem sp d) = .next (dispatchStep (midDispatch s mem sp d)) :=
    cpuStep_eq_dispatchStep hhalted (.inl hd)
  rw [cpuSteps, hcpu, dispatchStep, hstep]

theorem busWrite_midDispatch {s : State} {mem : Memory} {sp : Word} {d : DispatchState} {k : Nat}
    (h : StoresAt (sp - 1#16) k) (v : Byte) :
    busWrite (midDispatch s mem sp d) ((midDispatch s mem sp d).cpu.sp - 1#16) v =
      midDispatch s (mem.write k v) sp d :=
  busWrite_of_ramKey (ramKey_of_storesAt h) _ v

theorem sequencerStep_midDispatch_pcStore0 {s : State} {mem : Memory} {sp : Word} {k : Nat}
    (h : StoresAt (sp - 1#16) k) : sequencerStep (midDispatch s mem sp .pcStore0) =
      midDispatch s (mem.write k (BitVec.ofNat 8 (s.cpu.pc.toNat / 256))) (sp - 1#16) .pcStore1 := by
  rw [sequencerStep_of_pcStore0 rfl, busWrite_midDispatch h]
  rfl

theorem sequencerStep_midDispatch_pcStore1 {s : State} {mem : Memory} {sp : Word} {k : Nat}
    (h : StoresAt (sp - 1#16) k) : sequencerStep (midDispatch s mem sp .pcStore1) =
      midDispatch s (mem.write k (BitVec.ofNat 8 s.cpu.pc.toNat)) (sp - 1#16) .pcSet := by
  rw [sequencerStep_of_pcStore1 rfl, busWrite_midDispatch h]
  rfl

/-- Memory with PC's high byte stored at `k1`, then its low byte at `k2`. -/
def storedPc (s : State) (k1 k2 : Nat) : Memory :=
  (s.mem.write k1 (BitVec.ofNat 8 (s.cpu.pc.toNat / 256))).write k2 (BitVec.ofNat 8 s.cpu.pc.toNat)

/-- Five steps from Idle: IME is clear, PC is on the stack, and the source is still to be chosen. -/
theorem cpuSteps_of_taken {s : State} {k1 k2 : Nat} (n : Nat) (hhalted : s.cpu.halted = false)
    (hidle : s.irq.dispatch = .idle) (htaken : s.cpu.ime = true ∧ s.irq.request &&& s.irq.enable ≠ 0#5)
    (hhi : StoresAt (s.cpu.sp - 1#16) k1) (hlo : StoresAt (s.cpu.sp - 2#16) k2) :
    cpuSteps (n + 5) s = cpuSteps n (midDispatch s (storedPc s k1 k2) (s.cpu.sp - 2#16) .pcSet) := by
  have hbegin : cpuStep s = .next (midDispatch s s.mem s.cpu.sp .nop0) := by
    rw [cpuStep_eq_dispatchStep hhalted (.inr htaken), dispatchStep, sequencerStep_of_taken hidle htaken]
    rfl
  have hlo' : StoresAt (s.cpu.sp - 1#16 - 1#16) k2 := by rwa [sp_sub_two]
  rw [cpuSteps, hbegin]
  dsimp only
  refine (cpuSteps_midDispatch (d := .nop0) _ hhalted nofun (sequencerStep_of_nop0 rfl)).trans ?_
  refine (cpuSteps_midDispatch (d := .nop1) _ hhalted nofun (sequencerStep_of_nop1 rfl)).trans ?_
  refine (cpuSteps_midDispatch (d := .pcStore0) _ hhalted nofun (sequencerStep_midDispatch_pcStore0 hhi)).trans ?_
  refine (cpuSteps_midDispatch (d := .pcStore1) _ hhalted nofun (sequencerStep_midDispatch_pcStore1 hlo')).trans ?_
  rw [sp_sub_two]
  rfl

/-- PC is read back from the two bytes, and no other byte changes. -/
theorem storedPc_read {s : State} {k1 k2 : Nat} (hwf : s.mem.wf = true) (hhi : StoresAt (s.cpu.sp - 1#16) k1)
    (hlo : StoresAt (s.cpu.sp - 2#16) k2) :
    (storedPc s k1 k2).read k1 = BitVec.ofNat 8 (s.cpu.pc.toNat / 256) ∧
    (storedPc s k1 k2).read k2 = BitVec.ofNat 8 s.cpu.pc.toNat ∧
    ∀ j, j ≠ k1 → j ≠ k2 → (storedPc s k1 k2).read j = s.mem.read j := by
  refine ⟨?_, Memory.read_write_self _ _ _ (Memory.write_wf _ _ _ hwf) (backed_of_storesAt hlo), fun j h1 h2 => ?_⟩
  · rw [storedPc, Memory.read_write_ne _ _ _ _ (storesAt_below_sp_ne hhi hlo)]
    exact Memory.read_write_self _ _ _ hwf (backed_of_storesAt hhi)
  · rw [storedPc, Memory.read_write_ne _ _ _ _ h2, Memory.read_write_ne _ _ _ _ h1]

/-- Settles O32: five steps save PC, and the sixth enters the handler of the bit that was least all along. -/
theorem dispatchEntersTheHandlerInSixSteps : Obligations.DispatchEntersTheHandlerInSixSteps := by
  intro s k k1 k2 hwf hhalted hidle hime hk hset hleast hhi hlo
  obtain ⟨i, rfl⟩ := Interrupt.exists_index_eq hk
  have hpending : s.irq.request &&& s.irq.enable ≠ 0#5 := fun h0 => by simp [h0] at hset
  obtain ⟨hread1, hread2, hother⟩ := storedPc_read hwf hhi hlo
  have hserve : sequencerStep (midDispatch s (storedPc s k1 k2) (s.cpu.sp - 2#16) .pcSet) = _ :=
    sequencerStep_of_served rfl i hset hleast
  have hsix : cpuSteps 6 s = _ :=
    (cpuSteps_of_taken 1 hhalted hidle ⟨hime, hpending⟩ hhi hlo).trans
      (cpuSteps_midDispatch 0 hhalted nofun hserve)
  exact ⟨_, hsix, rfl, getLsbD_and_not_mask s.irq.request i, rfl, rfl, hread1, hread2, hother, rfl⟩

end Sys2Proof.Machine
end

section
/-! PROOFS. The timer (spec/60_exceptions.md R380 to R391). -/

namespace Sys2Proof.Machine

open Sys2Proof.Rules

/-! ## The detector, by the rules' numbers -/

/-- The timer with its counter one up, the rest as it was: what the detector looks at. -/
def Timer.counted (t : Timer) : Timer := { t with counter := t.counter + 1#16 }

theorem selectedBit_eq (select : BitVec 2) : selectedBit select = selectBit select := by
  match select with
  | 0#2 | 1#2 | 2#2 | 3#2 => rfl

/-- The bit the detector samples, after the increment (60 R382). -/
theorem selBit_counted (t : Timer) : t.counted.selBit = nextBit t := by
  rw [Timer.selBit, nextBit, ← selectedBit_eq, Timer.counted, BitVec.getLsbD, Nat.testBit_eq_decide_div_mod_eq,
    BitVec.toNat_add]
  rfl

/-- Gated in front of the detector (DMG) or behind it (CGB), an edge needs the enable (60 R383, R384). -/
theorem detect_counted_edge (rev : Config.TimerRevision) (t : Timer) :
    (t.counted.detect rev).1 = true ↔ Edge t := by
  rw [Edge, ← selBit_counted]
  cases rev with
  | dmg => by_cases he : t.tacEnable = true <;> simp [Timer.detect, Timer.counted, he]
  | cgb => simp [Timer.detect, Timer.counted, and_comm]

theorem detect_counted_last (rev : Config.TimerRevision) (t : Timer) :
    (t.counted.detect rev).2 = lastAfter rev t := by
  rw [lastAfter, ← selBit_counted]
  cases rev with
  | dmg => by_cases he : t.tacEnable = true <;> simp [Timer.detect, Timer.counted, he]
  | cgb => simp [Timer.detect]

theorem ticked_eq (rev : Config.TimerRevision) (t : Timer) :
    ticked rev t = { t.counted with lastBit := (t.counted.detect rev).2 } := by
  rw [ticked, ofNat_toNat_add, detect_counted_last]
  rfl

/-! ## One tick, arm by arm -/

/-- While counting, only an edge moves TIMA or the overflow state (60 R385). -/
theorem tick_of_counting (rev : Config.TimerRevision) {t : Timer} (h : t.overflow = .counting) :
    t.tick rev = (if (t.counted.detect rev).1 = true then
      if t.tima = 0xFF#8 then { ticked rev t with overflow := .willOverflow }
      else { ticked rev t with tima := BitVec.ofNat 8 (t.tima.toNat + 1) }
    else ticked rev t, false) := by
  have hnext : BitVec.ofNat 8 (t.tima.toNat + 1) = t.tima + 1#8 := by bv_omega
  rw [ticked_eq, hnext, apply_ite (·, false), apply_ite (·, false)]
  obtain ⟨_, _, _, _, _, _, overflow⟩ := t
  obtain rfl : overflow = .counting := h
  rfl

theorem timerTick_of_counting {s : State} (h : s.timer.overflow = .counting) : timerTick s = { s with
    timer := (s.timer.tick s.cfg.timerRevision).1 } := by
  rw [timerTick, tick_of_counting _ h]
  rfl

theorem timerTick_of_no_edge {s : State} (h : s.timer.overflow = .counting) (hedge : ¬ Edge s.timer) :
    timerTick s = { s with timer := ticked s.cfg.timerRevision s.timer } := by
  rw [← detect_counted_edge s.cfg.timerRevision] at hedge
  rw [timerTick_of_counting h, tick_of_counting _ h, if_neg hedge]

theorem timerTick_of_edge {s : State} (h : s.timer.overflow = .counting) (hedge : Edge s.timer)
    (htima : s.timer.tima ≠ 0xFF#8) : timerTick s = { s with
      timer := { ticked s.cfg.timerRevision s.timer with tima := BitVec.ofNat 8 (s.timer.tima.toNat + 1) } } := by
  rw [← detect_counted_edge s.cfg.timerRevision] at hedge
  rw [timerTick_of_counting h, tick_of_counting _ h, if_pos hedge, if_neg htima]

theorem timerTick_of_full_edge {s : State} (h : s.timer.overflow = .counting) (hedge : Edge s.timer)
    (htima : s.timer.tima = 0xFF#8) : timerTick s = { s with
      timer := { ticked s.cfg.timerRevision s.timer with overflow := .willOverflow } } := by
  rw [← detect_counted_edge s.cfg.timerRevision] at hedge
  rw [timerTick_of_counting h, tick_of_counting _ h, if_pos hedge, if_pos htima]

theorem timerTick_of_willOverflow {s : State} (h : s.timer.overflow = .willOverflow) : timerTick s = { s with
      timer := { ticked s.cfg.timerRevision s.timer with tima := 0x00#8, overflow := .justOverflowed } } := by
  rw [ticked_eq]
  simp only [timerTick, Timer.tick, h]
  rfl

theorem timerTick_of_justOverflowed {s : State} (h : s.timer.overflow = .justOverflowed) : timerTick s = { s with
      timer := { ticked s.cfg.timerRevision s.timer with tima := s.timer.tma, overflow := .counting }
      irq := { s.irq with request := s.irq.request ||| 0b00100#5 } } := by
  rw [ticked_eq]
  simp only [timerTick, Timer.tick, h]
  rfl

/-- Settles O39: one lemma for each arm. -/
theorem timerTickRule : Obligations.TimerTick :=
  fun _ => ⟨timerTick_of_no_edge, timerTick_of_edge, timerTick_of_full_edge, timerTick_of_willOverflow,
    timerTick_of_justOverflowed⟩

/-! ## Many ticks -/

/-- The registers of the timer that a program sets (10 R49, R50). -/
def Timer.control (t : Timer) : Byte × Bool × BitVec 2 := (t.tma, t.tacEnable, t.tacSelect)

theorem timerTick_control (s : State) : (timerTick s).timer.control = s.timer.control := by
  rw [timerTick_timer]
  unfold Timer.tick
  dsimp only
  split
  · split
    · split <;> rfl
    · rfl
  · rfl
  · rfl

theorem timerStep_control (n : Nat) (s : State) : (timerStep n s).timer.control = s.timer.control := by
  induction n generalizing s with
  | zero => rfl
  | succ n ih => rw [timerStep, ih, timerTick_control]

/-- Of IF a tick can set the Timer bit alone (60 R387). -/
theorem timerTick_getLsbD_request {j : Nat} (hj : j ≠ 2) (s : State) :
    (timerTick s).irq.request.getLsbD j = s.irq.request.getLsbD j := by
  obtain h | h := timerTick_cases s <;> rw [h]
  have hbit : decide (j = Interrupt.timer.index) = false := decide_eq_false hj
  rw [getLsbD_trigger, hbit, Bool.or_false]

theorem timerStep_getLsbD_request {j : Nat} (hj : j ≠ 2) (n : Nat) (s : State) :
    (timerStep n s).irq.request.getLsbD j = s.irq.request.getLsbD j := by
  induction n generalizing s with
  | zero => rfl
  | succ n ih => rw [timerStep, ih, timerTick_getLsbD_request hj]

/-- Settles O40: by induction on the number of ticks, one lemma for each part of the state. -/
theorem timerStepAdvancesTheCounter : Obligations.TimerStepAdvancesTheCounter := by
  intro n s
  have hcounter : (timerStep n s).timer.counter.toNat = (s.timer.counter.toNat + n) % 65536 := by
    rw [timerStep_counter, BitVec.toNat_add, BitVec.toNat_ofNat, Nat.add_mod_mod]
  have hcontrol := timerStep_control n s
  simp only [Timer.control, Prod.mk.injEq] at hcontrol
  obtain ⟨htma, henable, hselect⟩ := hcontrol
  refine ⟨hcounter, htma, henable, hselect, fun j hj => timerStep_getLsbD_request hj n s, ?_⟩
  simp only [timerStep_cpu, timerStep_ppu, timerStep_mem, timerStep_io, timerStep_cfg, timerStep_enable,
    timerStep_dispatch]

/-! ## The overflow -/

/-- Settles O41: the edge at 0xFF, and then the two overflow states, one a tick. -/
theorem overflowTakesThreeTicks : Obligations.OverflowTakesThreeTicks := by
  intro s hcounting htima hedge
  have h1 : timerStep 1 s = _ := timerTick_of_full_edge hcounting hedge htima
  have h2 : timerStep 2 s = timerTick (timerStep 1 s) := rfl
  have h3 : timerStep 3 s = timerTick (timerStep 2 s) := rfl
  rw [h3, h2, h1, timerTick_of_willOverflow rfl, timerTick_of_justOverflowed rfl]
  exact ⟨htima, rfl, rfl, rfl, rfl, rfl, rfl, rfl, rfl⟩

end Sys2Proof.Machine
end

section
/-! PROOFS. The PPU's walk through a frame, the selection of objects and the picture (spec/60_exceptions.md R401 to
R411, R418). -/

namespace Sys2Proof.Machine

open Sys2Proof.Rules

/-! ## The end of a line -/

/-- The line after the last of the frame is line 0 (60 R410). -/
theorem Ppu.endLine_line (p : Ppu) :
    p.endLine.1.line = if p.mode = .vBlank ∧ p.line = 153 then 0 else p.line + 1 := by
  unfold Ppu.endLine
  cases h : p.mode with
  | vBlank => dsimp only; split <;> simp_all
  | oamScan | drawing | hBlank => dsimp only; split <;> simp_all

@[simp] theorem Ppu.endLine_dot (p : Ppu) : p.endLine.1.dot = p.dot - 456 := by
  unfold Ppu.endLine
  dsimp only
  repeat' split
  all_goals rfl

/-- VBlank is raised at the end of the picture's last line (60 R410). -/
theorem Ppu.endLine_raised (p : Ppu) : p.endLine.2 = decide (p.mode ≠ .vBlank ∧ p.line = 143) := by
  unfold Ppu.endLine
  cases h : p.mode with
  | vBlank => dsimp only; split <;> simp_all
  | oamScan | drawing | hBlank => dsimp only; split <;> simp_all

/-- The registers of the PPU that a program sets (10 R65 to R68). -/
def Ppu.control (p : Ppu) : Byte × Byte × Byte × Byte × Byte := (p.lcdc, p.stat, p.scy, p.scx, p.bgp)

@[simp] theorem Ppu.endLine_control (p : Ppu) : p.endLine.1.control = p.control := by
  unfold Ppu.endLine
  dsimp only
  repeat' split
  all_goals simp only [Ppu.control]

/-! ## One dot in the frame -/

theorem Ppu.dotStep_control (m : Memory) (p : Ppu) : (p.dotStep m).1.control = p.control := by
  cases h : p.mode with
  | oamScan => rw [p.dotStep_of_oamScan m h]; split <;> rfl
  | drawing => rw [p.dotStep_of_drawing m h]; rfl
  | hBlank =>
    rw [p.dotStep_of_blank m (.inl h)]
    split
    · exact Ppu.endLine_control _
    · rfl
  | vBlank =>
    rw [p.dotStep_of_blank m (.inr h)]
    split
    · exact Ppu.endLine_control _
    · rfl

/-- A dot goes one place on; the last place of the frame is followed by the first (60 R411). -/
theorem Ppu.dotStep_place (m : Memory) {p : Ppu} (h : p.inPlace = true) :
    place (p.dotStep m).1 = (place p + 1) % 70224 := by
  unfold place
  cases hm : p.mode with
  | oamScan =>
    obtain ⟨hdot, hline, -⟩ := (Ppu.inPlace_oamScan hm).mp h
    rw [p.dotStep_of_oamScan m hm]
    split <;> dsimp only <;> omega
  | drawing =>
    obtain ⟨-, hdot, hline, -⟩ := (Ppu.inPlace_drawing hm).mp h
    rw [p.dotStep_of_drawing m hm]
    dsimp only
    omega
  | hBlank =>
    obtain ⟨-, hdot, hline, -⟩ := (Ppu.inPlace_hBlank hm).mp h
    rw [p.dotStep_of_blank m (.inl hm)]
    split
    · rw [Ppu.endLine_line, Ppu.endLine_dot, if_neg (by simp [hm])]
      dsimp only
      omega
    · dsimp only
      omega
  | vBlank =>
    obtain ⟨hdot, hlow, hline, -⟩ := (Ppu.inPlace_vBlank hm).mp h
    rw [p.dotStep_of_blank m (.inr hm)]
    split
    · rw [Ppu.endLine_line, Ppu.endLine_dot]
      simp only [hm, true_and]
      split <;> omega
    · dsimp only
      omega

/-- VBlank is raised on the dot that enters line 144 and on no other (60 R410). -/
theorem Ppu.dotStep_raised (m : Memory) {p : Ppu} (h : p.inPlace = true) :
    (p.dotStep m).2 = decide (place (p.dotStep m).1 = 65664) := by
  rw [Ppu.dotStep_place m h, place]
  cases hm : p.mode with
  | oamScan =>
    obtain ⟨hdot, hline, -⟩ := (Ppu.inPlace_oamScan hm).mp h
    have hearly : ¬ (456 * p.line + p.dot + 1) % 70224 = 65664 := by omega
    simp only [Ppu.dotStep, hm, apply_ite Prod.snd, ite_self, decide_eq_false hearly]
  | drawing =>
    obtain ⟨-, hdot, hline, -⟩ := (Ppu.inPlace_drawing hm).mp h
    have hearly : ¬ (456 * p.line + p.dot + 1) % 70224 = 65664 := by omega
    simp only [Ppu.dotStep, hm, apply_ite Prod.snd, ite_self, decide_eq_false hearly]
  | hBlank =>
    obtain ⟨-, hdot, hline, -⟩ := (Ppu.inPlace_hBlank hm).mp h
    simp only [Ppu.dotStep, hm, apply_ite Prod.snd, Ppu.endLine_raised]
    split
    · exact decide_eq_decide.mpr (by simp; omega)
    · exact (decide_eq_false (by omega)).symm
  | vBlank =>
    obtain ⟨hdot, hlow, hline, -⟩ := (Ppu.inPlace_vBlank hm).mp h
    have hlate : ¬ (456 * p.line + p.dot + 1) % 70224 = 65664 := by omega
    simp only [Ppu.dotStep, hm, apply_ite Prod.snd, Ppu.endLine_raised, decide_eq_false hlate]
    simp

theorem ppuDot_irq (s : State) : (ppuDot s).irq = if (s.ppu.dotStep s.mem).2 = true then
    { s.irq with request := s.irq.request ||| 0b00001#5 } else s.irq := by
  unfold ppuDot
  dsimp only
  split <;> rfl

/-- Settles O42: the walk mode by mode; a dot leaves the units outside the PPU and the request alone. -/
theorem dotsWalkTheFrame : Obligations.DotsWalkTheFrame := by
  intro s h
  have hcontrol := Ppu.dotStep_control s.mem s.ppu
  rw [← ppuDot_ppu] at hcontrol
  simp only [Ppu.control, Prod.mk.injEq] at hcontrol
  refine ⟨?_, ?_, ?_, ppuDot_cpu s, ppuDot_timer s, ppuDot_mem s, ppuDot_io s, ppuDot_cfg s, hcontrol⟩
  · rw [ppuDot_ppu]
    exact Ppu.dotStep_inPlace s.mem s.ppu h
  · rw [ppuDot_ppu]
    exact Ppu.dotStep_place s.mem h
  · rw [ppuDot_irq, Ppu.dotStep_raised s.mem h, ppuDot_ppu]
    simp only [decide_eq_true_eq]

/-! ## The picture -/

/-- Positions of the picture have keys of their own. -/
theorem pixelKey_eq_iff {l x l' x' : Nat} (hx : x < 160) (hx' : x' < 160) :
    160 * l + x = 160 * l' + x' ↔ l = l' ∧ x = x' := by omega

/-- Drawing a pixel changes it and no other (60 R418). -/
theorem Ppu.draw_pixelAt {p : Ppu} (c : BitVec 2) (hfb : fbWf p.fb = true) (hline : p.line < 144) (hcol : p.x < 160)
    {l x : Nat} (hx : x < 160) :
    (p.draw c).pixelAt l x = if l = p.line ∧ x = p.x then c else p.pixelAt l x := by
  simp only [fbWf, Bool.and_eq_true] at hfb
  obtain ⟨hform, -⟩ := hfb
  simp only [← pixelKey_eq_iff hx hcol]
  rw [Ppu.draw, if_pos ⟨hline, hcol⟩]
  exact sparseRead_write _ _ _ _ _ _ hform

/-- Settles O47: the pixel is drawn at the PPU's place, and the 160th column is the last. -/
theorem drawingStoresOnePixel : Obligations.DrawingStoresOnePixel := by
  intro s hplace hfb hmode
  obtain ⟨-, hdot, hline, hcol⟩ := (Ppu.inPlace_drawing hmode).mp hplace
  rw [ppuDot_ppu, s.ppu.dotStep_of_drawing s.mem hmode]
  refine ⟨fun l x _ hx => ?_, fun hx => ?_, fun hx => ?_⟩
  · refine (Ppu.draw_pixelAt (p := { s.ppu with dot := s.ppu.dot + 1 }) _ hfb hline (by dsimp only; omega) hx).trans ?_
    dsimp only
    split
    next hhere => rw [hhere.1, hhere.2]
    next => rfl
  · have hmore : ¬ s.ppu.x + 1 = 160 := by omega
    exact ⟨if_neg hmore, if_neg hmore⟩
  · have hlast : s.ppu.x + 1 = 160 := by omega
    exact ⟨if_pos hlast, if_pos hlast⟩

/-! ## The selection of objects -/

theorem objectHeight_cast (lcdc : Byte) : (objectHeight lcdc : Int) = if lcdc.getLsbD 2 = true then 16 else 8 := by
  unfold objectHeight
  split <;> rfl

/-- An object covers a line in the model exactly by the rule's inequalities over the integers (60 R408). -/
theorem covers_iff (m : Memory) (lcdc : Byte) (line i : Nat) :
    covers m lcdc line i = true ↔ Covering m lcdc line i := by
  simp only [covers, Covering, objectHeight_cast, Bool.and_eq_true, decide_eq_true_eq]
  exact Iff.rfl

/-- In a list that rises, the first `k` elements are those with fewer than `k` elements below them. -/
theorem mem_take_iff_of_pairwise_lt {n : Nat} {l : List (Fin n)} (h : l.Pairwise (· < ·)) (k : Nat) (a : Fin n) :
    a ∈ l.take k ↔ a ∈ l ∧ (l.filter (fun b => decide (b < a))).length < k := by
  induction l generalizing k with
  | nil =>
    rw [List.take_nil]
    exact iff_of_false List.not_mem_nil fun ⟨hmem, _⟩ => List.not_mem_nil hmem
  | cons b l ih =>
    obtain ⟨hb, hl⟩ := List.pairwise_cons.mp h
    cases k with
    | zero => exact iff_of_false List.not_mem_nil fun ⟨_, hlt⟩ => Nat.not_lt_zero _ hlt
    | succ k =>
      rw [List.take_succ_cons, List.mem_cons, List.mem_cons, ih hl]
      obtain hlt | heq | hgt := Nat.lt_trichotomy b.val a.val
      · have hne : a ≠ b := (Fin.ne_of_lt hlt).symm
        have hkept : (b :: l).filter (fun c => decide (c < a)) = b :: l.filter (fun c => decide (c < a)) :=
          List.filter_cons_of_pos (decide_eq_true hlt)
        rw [hkept, List.length_cons, Nat.succ_lt_succ_iff]
        simp only [hne, false_or]
      · obtain rfl : b = a := Fin.ext heq
        have hnone : (b :: l).filter (fun c => decide (c < b)) = [] := by
          refine List.filter_eq_nil_iff.mpr fun c hc => ?_
          rw [decide_eq_true_iff, Fin.not_lt]
          obtain rfl | hc := List.mem_cons.mp hc
          · exact Nat.le_refl _
          · exact Nat.le_of_lt (hb c hc)
        rw [hnone]
        exact iff_of_true (.inl rfl) ⟨.inl rfl, Nat.succ_pos k⟩
      · have hne : a ≠ b := Fin.ne_of_lt hgt
        have hout : a ∉ l := fun ha => Nat.lt_asymm hgt (hb a ha)
        simp only [hne, hout, false_or, false_and]

/-- Object `i` is among the selected exactly if it covers the line and fewer than ten objects before it do. -/
theorem mem_selectObjects_iff (m : Memory) (lcdc : Byte) (line : Nat) (i : Fin 40) :
    i ∈ selectObjects m lcdc line ↔ Covering m lcdc line i.val ∧
      ((List.finRange 40).filter (fun j => decide (j < i) && covers m lcdc line j.val)).length < 10 := by
  have hord : ((List.finRange 40).filter (fun j => covers m lcdc line j.val)).Pairwise (· < ·) :=
    (List.pairwise_lt_finRange 40).sublist List.filter_sublist
  rw [selectObjects, mem_take_iff_of_pairwise_lt hord, List.mem_filter, List.filter_filter, covers_iff]
  simp only [List.mem_finRange, true_and]

/-- The objects before `i` that cover the line. -/
theorem mem_filter_before_iff (m : Memory) (lcdc : Byte) (line : Nat) (i j : Fin 40) :
    j ∈ (List.finRange 40).filter (fun j => decide (j < i) && covers m lcdc line j.val) ↔
      j.val < i.val ∧ Covering m lcdc line j.val := by
  simp only [List.mem_filter, List.mem_finRange, true_and, Bool.and_eq_true, decide_eq_true_eq, covers_iff, Fin.lt_def]

/-- Any list of the objects before `i` that cover the line is at least as long as the one without repetition. -/
theorem length_filter_before_le {m : Memory} {lcdc : Byte} {line : Nat} {i : Fin 40} {l : List (Fin 40)}
    (h : ∀ j : Fin 40, j ∈ l ↔ j.val < i.val ∧ Covering m lcdc line j.val) :
    ((List.finRange 40).filter (fun j => decide (j < i) && covers m lcdc line j.val)).length ≤ l.length := by
  have hnodup := (List.nodup_finRange 40).sublist
    (List.filter_sublist (p := fun j => decide (j < i) && covers m lcdc line j.val))
  exact hnodup.length_le_of_subset fun j hj => (h j).mpr ((mem_filter_before_iff m lcdc line i j).mp hj)

/-- Settles O43: the dot that ends OamScan selects, and the selection is the first ten of a list that rises. -/
theorem selectsTheFirstTenCoveringObjects : Obligations.SelectsTheFirstTenCoveringObjects := by
  intro s hmode hdot
  rw [ppuDot_ppu, s.ppu.dotStep_of_oamScan s.mem hmode, if_pos (by omega)]
  refine ⟨rfl, (List.pairwise_lt_finRange 40).sublist (selectObjects_sublist _ _ _), fun i => ?_⟩
  rw [mem_selectObjects_iff, and_congr_right_iff]
  exact fun _ => ⟨fun hfew => ⟨_, hfew, mem_filter_before_iff _ _ _ i⟩,
    fun ⟨_, hlen, hmem⟩ => Nat.lt_of_le_of_lt (length_filter_before_le hmem) hlen⟩

end Sys2Proof.Machine
end

section
/-! PROOFS. The pixels of the PPU: the background, an object, and the one drawn (spec/60_exceptions.md R412 to R417). -/

namespace Sys2Proof.Machine

open Sys2Proof.Rules

/-! ## Tiles -/

theorem toNat_ofBool_getLsbD (v : Byte) (i : Nat) : (BitVec.ofBool (v.getLsbD i)).toNat = v.toNat / 2 ^ i % 2 := by
  rw [toNat_ofBool_eq_ite, getLsbD_eq_decide_div_mod]
  rcases Nat.mod_two_eq_zero_or_one (v.toNat / 2 ^ i) with h | h <;> simp [h]

/-- The two planes of a tile record, by numbers (60 R415). -/
theorem tilePixel_rule (m : Memory) (base cx cy : Nat) : TilePixel m base cx cy (tilePixel m base cx cy) := by
  rw [TilePixel, tilePixel, toNat_append_eq_add, toNat_ofBool_getLsbD, toNat_ofBool_getLsbD]
  simp only [vramByte, ← Nat.add_assoc, Nat.pow_one, Nat.mul_comm _ 2]

/-- Both addressings of the tile records (60 R413): the second counts from record 256 by the signed index. -/
theorem tileDataBase_rule (lcdc idx : Byte) : (tileDataBase lcdc idx : Int) =
    if lcdc.getLsbD 4 = true then 16 * (idx.toNat : Int) else 0x1000 + 16 * idx.toInt := by
  have hidx := idx.isLt
  rw [tileDataBase, BitVec.toInt_eq_toNat_cond]
  split
  · omega
  · split <;> split <;> omega

/-- Settles O44: the record the map's entry names, at the column and row within its square. -/
theorem backgroundPixel : Obligations.BackgroundPixel := by
  intro m lcdc x line _ _
  refine ⟨_, _, rfl, tileDataBase_rule lcdc _, ?_⟩
  have hentry (map : Nat) : 0x8000 + (map + 32 * (line / 8) + x / 8) = 0x8000 + map + 32 * (line / 8) + x / 8 := by
    omega
  rw [bgPixel, vramByte, hentry]
  exact tilePixel_rule _ _ _ _

/-! ## Objects -/

/-- An object's column within its tile, after the flip (60 R414). -/
def objColumn (attr : Byte) (dx : Nat) : Nat := if attr.getLsbD 5 = true then 7 - dx else dx

/-- An object's row, after the flip. -/
def objRow (attr : Byte) (h dy : Nat) : Nat := if attr.getLsbD 6 = true then h - 1 - dy else dy

/-- The tile of the row: where objects are 16 tall, of the even and the odd tile of the pair. -/
def objTile (tile h cy : Nat) : Nat := if h = 16 then tile - tile % 2 + cy / 8 else tile

theorem objRow_lt {attr : Byte} {h dy : Nat} (hdy : dy < h) : objRow attr h dy < h := by
  unfold objRow
  split <;> omega

theorem evenTile_toNat (t : Byte) : ((t &&& 0xFE#8) ||| 0#8).toNat = t.toNat - t.toNat % 2 := by
  revert t
  decide

theorem oddTile_toNat (t : Byte) : ((t &&& 0xFE#8) ||| 1#8).toNat = t.toNat - t.toNat % 2 + 1 := by
  revert t
  decide

/-- The model's mask picks the tile of the pair that the row's half names. -/
theorem pairTile_toNat (t : Byte) {h cy : Nat} (hcy : cy < 16) :
    (if h = 16 then (t &&& 0xFE#8) ||| (if 8 ≤ (cy : Int) then 1#8 else 0#8) else t).toNat =
      objTile t.toNat h cy := by
  rw [objTile]
  split
  · split
    · rw [oddTile_toNat]
      omega
    · rw [evenTile_toNat]
      omega
  · rfl

theorem objectHeight_le (lcdc : Byte) : objectHeight lcdc ≤ 16 := by
  unfold objectHeight
  split <;> decide

/-- An object's pixel `dx` columns and `dy` rows into it (60 R414). -/
theorem objPixel_of_inside {m : Memory} {lcdc : Byte} {i x line dx dy : Nat}
    (hx : (x : Int) - ((oamByte m (4 * i + 1)).toNat - 8) = dx) (hdx : dx < 8)
    (hy : (line : Int) - ((oamByte m (4 * i)).toNat - 16) = dy) (hdy : dy < objectHeight lcdc) :
    objPixel m lcdc i x line = some (tilePixel m
      (16 * objTile (oamByte m (4 * i + 2)).toNat (objectHeight lcdc)
        (objRow (oamByte m (4 * i + 3)) (objectHeight lcdc) dy))
      (objColumn (oamByte m (4 * i + 3)) dx)
      (objRow (oamByte m (4 * i + 3)) (objectHeight lcdc) dy % 8)) := by
  have hrow : (if (oamByte m (4 * i + 3)).getLsbD 6 = true then (objectHeight lcdc : Int) - 1 - dy else dy) =
      (objRow (oamByte m (4 * i + 3)) (objectHeight lcdc) dy : Nat) := by
    unfold objRow
    split <;> omega
  have hcy := Nat.lt_of_lt_of_le (objRow_lt (attr := oamByte m (4 * i + 3)) hdy) (objectHeight_le lcdc)
  simp only [objPixel, hx, hy, hrow]
  rw [if_pos (by omega), pairTile_toNat _ hcy]
  rfl

/-- Settles O45: an object that covers the line has the row, and its columns are the eight from its left edge. -/
theorem objectPixel : Obligations.ObjectPixel := by
  intro m lcdc i x line _ hcover ox oy attr tile h
  obtain ⟨htop, hbottom⟩ := hcover
  have hheight := objectHeight_cast lcdc
  refine ⟨fun hoff => if_neg hoff, fun dx dy hdx hlt hdy => ⟨_, ?_, tilePixel_rule _ _ _ _⟩⟩
  exact objPixel_of_inside hdx.symm hlt hdy.symm (by omega)

/-! ## The pixel drawn -/

/-- Object `j` has a nonzero colour index at the position. -/
def OpaqueAt (m : Memory) (lcdc : Byte) (x line : Nat) (j : Fin 40) : Prop :=
  ∃ c, objPixel m lcdc j.val x line = some c ∧ c ≠ 0#2

section

variable {m : Memory} {lcdc : Byte} {x line : Nat}

theorem spriteStep_of_clear {j : Fin 40} (h : ¬ OpaqueAt m lcdc x line j)
    (best : Option (BitVec 2 × Byte)) : spriteStep m lcdc x line best j = best := by
  unfold spriteStep
  split
  next => rfl
  next c hc => exact if_pos (Decidable.byContradiction fun hne => h ⟨c, hc, hne⟩)

/-- An opaque candidate is kept if its X is below that of the candidate kept so far (60 R416). -/
theorem spriteStep_of_opaque {j : Fin 40} {c : BitVec 2} (h : objPixel m lcdc j.val x line = some c) (hne : c ≠ 0#2)
    (best : Option (BitVec 2 × Byte)) : spriteStep m lcdc x line best j =
      if ∀ b ∈ best, oamByte m (4 * j.val + 1) < b.2 then some (c, oamByte m (4 * j.val + 1)) else best := by
  simp only [spriteStep, h, if_neg hne]
  cases best <;> simp

/-- What is below the X of every opaque object of the list is below that of the candidate kept. -/
theorem lt_foldl_spriteStep {ix : Byte} {slots : List (Fin 40)}
    (h : ∀ j ∈ slots, OpaqueAt m lcdc x line j → ix < oamByte m (4 * j.val + 1)) :
    ∀ b ∈ slots.foldl (spriteStep m lcdc x line) none, ix < b.2 := by
  refine List.foldlRecOn (motive := fun best : Option (BitVec 2 × Byte) => ∀ b ∈ best, ix < b.2) slots _ (by simp)
    fun best hbest j hj => ?_
  by_cases hopaque : OpaqueAt m lcdc x line j
  · obtain ⟨c, hc, hne⟩ := hopaque
    rw [spriteStep_of_opaque hc hne]
    split
    · simpa using h j hj ⟨c, hc, hne⟩
    · exact hbest
  · rwa [spriteStep_of_clear hopaque]

/-- A candidate kept outlasts the slots whose opaque objects have no smaller X. -/
theorem foldl_spriteStep_of_kept {best : BitVec 2 × Byte} {slots : List (Fin 40)}
    (h : ∀ j ∈ slots, OpaqueAt m lcdc x line j → ¬ oamByte m (4 * j.val + 1) < best.2) :
    slots.foldl (spriteStep m lcdc x line) (some best) = some best := by
  refine List.foldlRecOn (motive := fun kept => kept = some best) slots _ rfl fun kept hkept j hj => ?_
  subst hkept
  by_cases hopaque : OpaqueAt m lcdc x line j
  · obtain ⟨c, hc, hne⟩ := hopaque
    rw [spriteStep_of_opaque hc hne]
    exact if_neg fun hall => h j hj ⟨c, hc, hne⟩ (hall best rfl)
  · exact spriteStep_of_clear hopaque _

/-- With no opaque object there is no sprite here. -/
theorem foldl_spriteStep_of_clear {slots : List (Fin 40)} (h : ∀ j ∈ slots, ¬ OpaqueAt m lcdc x line j) :
    slots.foldl (spriteStep m lcdc x line) none = none := by
  refine List.foldlRecOn (motive := fun kept => kept = none) slots _ rfl fun kept hkept j hj => ?_
  rw [spriteStep_of_clear (h j hj), hkept]

/-- An opaque object replaces what the slots before it left, and the slots after it do not replace it. -/
theorem foldl_spriteStep_of_winner {before after : List (Fin 40)} {i : Fin 40} {c : BitVec 2}
    (hc : objPixel m lcdc i.val x line = some c) (hne : c ≠ 0#2)
    (hbefore : ∀ j ∈ before, OpaqueAt m lcdc x line j → oamByte m (4 * i.val + 1) < oamByte m (4 * j.val + 1))
    (hafter : ∀ j ∈ after, OpaqueAt m lcdc x line j → ¬ oamByte m (4 * j.val + 1) < oamByte m (4 * i.val + 1)) :
    (before ++ i :: after).foldl (spriteStep m lcdc x line) none = some (c, oamByte m (4 * i.val + 1)) := by
  rw [List.foldl_append, List.foldl_cons, spriteStep_of_opaque hc hne, if_pos (lt_foldl_spriteStep hbefore),
    foldl_spriteStep_of_kept hafter]

end

/-- Settles O46: the fold over the slots keeps the winner; `pixel` falls back to the background. -/
theorem smallestXWins : Obligations.SmallestXWins := by
  intro m lcdc slots x line opaqueAt xOf
  refine ⟨?_, fun hclear => ?_⟩
  · rintro before i after c rfl hc hne hbefore hafter
    have hlater : ∀ j ∈ after, OpaqueAt m lcdc x line j →
        ¬ oamByte m (4 * j.val + 1) < oamByte m (4 * i.val + 1) :=
      fun j hj hopaque => BitVec.not_lt.mpr (hafter j hj hopaque)
    rw [pixel, spritePixel, foldl_spriteStep_of_winner hc hne hbefore hlater]
    rfl
  · rw [pixel, spritePixel, foldl_spriteStep_of_clear hclear]
    rfl

end Sys2Proof.Machine
end

section
/-! PROOFS. The traces told to the host (spec/60_exceptions.md R355; 20_memory.md R118): states that differ in them
alone step to states that differ in them alone. -/

namespace Sys2Proof.Machine

open Sys2Proof.Rules

/-- `t` is `s` but for the traces. -/
def Alike (s t : State) : Prop := ∃ joypad diag, t = retraced s joypad diag

/-- A change of the state that does not read the traces. -/
def Blind (f : State → State) : Prop :=
  ∀ (s : State) (joypad : List Byte) (diag : List Report), Alike (f s) (f (retraced s joypad diag))

/-! ## What keeps states alike -/

theorem alike_retraced (s : State) (joypad : List Byte) (diag : List Report) : Alike s (retraced s joypad diag) :=
  ⟨joypad, diag, rfl⟩

theorem Blind.alike {f : State → State} (hf : Blind f) {s t : State} (h : Alike s t) : Alike (f s) (f t) := by
  obtain ⟨joypad, diag, rfl⟩ := h
  exact hf s joypad diag

theorem Blind.of_eq {f g : State → State} (h : ∀ s, f s = g s) (hg : Blind g) : Blind f :=
  (funext h : f = g) ▸ hg

/-- A change that adds nothing to the traces. -/
theorem Blind.silent {f : State → State}
    (h : ∀ s joypad diag, f (retraced s joypad diag) = retraced (f s) joypad diag := by intros; rfl) : Blind f :=
  fun s joypad diag => ⟨joypad, diag, h s joypad diag⟩

theorem Blind.ite {f g : State → State} {p : State → Prop} [DecidablePred p] (hf : Blind f) (hg : Blind g)
    (hp : ∀ s joypad diag, p (retraced s joypad diag) ↔ p s) : Blind (fun s => if p s then f s else g s) := by
  intro s joypad diag
  simp only [hp]
  split
  · exact hf s joypad diag
  · exact hg s joypad diag

theorem mapCpu_blind (f : Cpu → Cpu) : Blind (·.mapCpu f) := .silent

theorem advance_blind (len : Word) (n : Nat) : Blind (·.advance len n) := .silent

theorem jump_blind (target : Word) (n : Nat) : Blind (·.jump target n) := .silent

theorem setCpu_blind (c : Cpu) : Blind (fun s => { s with cpu := c }) := .silent

theorem spend_blind (n : Nat) : Blind (·.spend n) := .silent

theorem setDispatch_blind (d : DispatchState) : Blind (·.setDispatch d) := .silent

theorem report_blind (r : Report) : Blind (·.report r) :=
  fun s joypad diag => alike_retraced (s.report r) joypad (r :: diag)

theorem Alike.mapCpu {s t : State} (h : Alike s t) (f : Cpu → Cpu) : Alike (s.mapCpu f) (t.mapCpu f) :=
  (mapCpu_blind f).alike h

theorem Alike.advance {s t : State} (h : Alike s t) (len : Word) (n : Nat) :
    Alike (s.advance len n) (t.advance len n) := (advance_blind len n).alike h

theorem Alike.jump {s t : State} (h : Alike s t) (target : Word) (n : Nat) :
    Alike (s.jump target n) (t.jump target n) := (jump_blind target n).alike h

theorem Alike.setCpu {s t : State} (h : Alike s t) (c : Cpu) : Alike { s with cpu := c } { t with cpu := c } :=
  (setCpu_blind c).alike h

theorem Alike.past {s t : State} (h : Alike s t) (c : Cpu) (len : Word) (n : Nat) :
    Alike (past s c len n) (past t c len n) := h.setCpu _

theorem Alike.cpu_eq {s t : State} (h : Alike s t) : t.cpu = s.cpu := by
  obtain ⟨joypad, diag, rfl⟩ := h
  rfl

/-! ## The bus and the stack -/

theorem Alike.busValue_eq {s t : State} (h : Alike s t) (a : Word) : busValue t a = busValue s a := by
  obtain ⟨joypad, diag, rfl⟩ := h
  rfl

theorem Alike.read {s t : State} (h : Alike s t) (a : Word) : Alike (busReadEffect s a) (busReadEffect t a) := by
  obtain ⟨joypad, diag, rfl⟩ := h
  unfold busReadEffect
  cases busDecode a with
  | unmapped => exact report_blind _ s joypad diag
  | _ => exact alike_retraced _ joypad diag

theorem dmaByte_blind (page : Byte) (i : Nat) : Blind (dmaByte page i) := by
  intro s joypad diag
  obtain ⟨joypad', diag', hread⟩ := (alike_retraced s joypad diag).read (dmaSource page i)
  unfold dmaByte
  rw [hread]
  exact alike_retraced _ joypad' diag'

theorem dmaCopy_blind (page : Byte) (n i : Nat) : Blind (dmaCopy page n i) := by
  induction n generalizing i with
  | zero => exact alike_retraced
  | succ n ih =>
    exact Blind.of_eq (dmaCopy_succ page n i)
      fun s joypad diag => (ih (i + 1)).alike (dmaByte_blind page i s joypad diag)

theorem dmaRequest_blind (v : Byte) : Blind (dmaRequest · v) := by
  intro s joypad diag
  unfold dmaRequest
  dsimp only [retraced]
  cases s.ppu.mode with
  | oamScan | drawing => exact report_blind _ s joypad diag
  | hBlank | vBlank => exact dmaCopy_blind v 160 0 s joypad diag

theorem Alike.write {s t : State} (h : Alike s t) (a : Word) (v : Byte) : Alike (busWrite s a v) (busWrite t a v) := by
  obtain ⟨joypad, diag, rfl⟩ := h
  unfold busWrite
  cases busDecode a with
  | joypad => exact alike_retraced _ (v :: joypad) diag
  | dma => exact dmaRequest_blind v s joypad diag
  | unmapped => exact report_blind _ s joypad diag
  | _ => exact alike_retraced _ joypad diag

theorem Alike.pushByte {s t : State} (h : Alike s t) (v : Byte) : Alike (pushByte s v) (pushByte t v) := by
  rw [pushByte_eq, pushByte_eq, h.cpu_eq]
  exact (h.write _ _).setCpu _

theorem Alike.push16 {s t : State} (h : Alike s t) (v : Word) : Alike (push16 s v) (push16 t v) :=
  (h.pushByte _).pushByte _

theorem Alike.pop16_snd {s t : State} (h : Alike s t) : Alike (pop16 s).2 (pop16 t).2 := by
  rw [pop16_eq, pop16_eq, h.cpu_eq]
  exact ((h.read _).read _).setCpu _

theorem Alike.pop16_fst {s t : State} (h : Alike s t) : (pop16 t).1 = (pop16 s).1 := by
  rw [pop16_eq, pop16_eq, h.cpu_eq, h.busValue_eq, (h.read _).busValue_eq]

/-! ## The operations of the instructions -/

theorem haltOp_blind : Blind haltOp :=
  Blind.ite .silent .silent fun _ _ _ => Iff.rfl

theorem undefinedOp_blind (op : Byte) : Blind (undefinedOp op) :=
  fun s joypad diag => (report_blind _ s joypad diag).advance _ _

theorem loadFromHl_blind (dst : Reg8) : Blind (loadFromHl dst) :=
  fun s joypad diag => (((alike_retraced s joypad diag).read _).mapCpu _).advance _ _

/-! The effective address of a load or a store of A is a constant or is found in the registers. -/

theorem loadA_blind {ea : State → Word} (hea : ∀ s joypad diag, ea (retraced s joypad diag) = ea s) (len : Word)
    (n : Nat) : Blind (fun s => loadA (ea s) len n s) := by
  intro s joypad diag
  simp only [hea]
  exact (((alike_retraced s joypad diag).read _).mapCpu _).advance _ _

theorem storeA_blind {ea : State → Word} (hea : ∀ s joypad diag, ea (retraced s joypad diag) = ea s) (len : Word)
    (n : Nat) : Blind (fun s => storeA (ea s) len n s) := by
  intro s joypad diag
  simp only [hea]
  exact ((alike_retraced s joypad diag).write _ _).advance _ _

theorem loadAStep_blind (delta : Word) : Blind (loadAStep delta) :=
  Blind.of_eq (loadAStep_eq delta) fun s joypad diag => ((alike_retraced s joypad diag).read _).past _ _ _

theorem storeAStep_blind (delta : Word) : Blind (storeAStep delta) :=
  Blind.of_eq (storeAStep_eq delta) fun s joypad diag => ((alike_retraced s joypad diag).write _ _).past _ _ _

theorem storeSp_blind (nn : Word) : Blind (storeSp nn) :=
  Blind.of_eq (storeSp_eq nn) fun s joypad diag =>
    (((alike_retraced s joypad diag).write _ _).write _ _).past _ _ _

theorem aluHl_blind (op : AluOp) : Blind (aluHl op) :=
  Blind.of_eq (aluHl_eq op) fun s joypad diag => ((alike_retraced s joypad diag).read _).past _ _ _

/-! A byte at HL that is read and written back. -/

theorem incHl_blind : Blind incHl :=
  Blind.of_eq incHl_eq fun s joypad diag => (((alike_retraced s joypad diag).read _).write _ _).past _ _ _

theorem decHl_blind : Blind decHl :=
  Blind.of_eq decHl_eq fun s joypad diag => (((alike_retraced s joypad diag).read _).write _ _).past _ _ _

theorem rotHl_blind (op : RotOp) : Blind (rotHl op) :=
  Blind.of_eq (rotHl_eq op) fun s joypad diag => (((alike_retraced s joypad diag).read _).write _ _).past _ _ _

theorem bitResetHl_blind (b : Fin 8) : Blind (bitResetHl b) :=
  Blind.of_eq (bitResetHl_eq b) fun s joypad diag => (((alike_retraced s joypad diag).read _).write _ _).past _ _ _

theorem bitSetHl_blind (b : Fin 8) : Blind (bitSetHl b) :=
  Blind.of_eq (bitSetHl_eq b) fun s joypad diag => (((alike_retraced s joypad diag).read _).write _ _).past _ _ _

theorem bitTestHl_blind (b : Fin 8) : Blind (bitTestHl b) :=
  Blind.of_eq (bitTestHl_eq b) fun s joypad diag => ((alike_retraced s joypad diag).read _).past _ _ _

/-! The stack and the flow of control. -/

theorem pushPair_blind (p : StackPair) : Blind (pushPair p) :=
  fun s joypad diag => ((alike_retraced s joypad diag).push16 _).advance _ _

theorem popPair_blind (p : StackPair) : Blind (popPair p) := by
  intro s joypad diag
  have h := alike_retraced s joypad diag
  simp only [popPair, h.pop16_fst]
  exact (h.pop16_snd.mapCpu _).advance _ _

theorem callTo_blind (nn : Word) : Blind (callTo nn) :=
  fun s joypad diag => ((alike_retraced s joypad diag).push16 _).jump _ _

theorem restart_blind (y : Fin 8) : Blind (restart y) :=
  fun s joypad diag => ((alike_retraced s joypad diag).push16 _).jump _ _

theorem callIf_blind (cc : Cond) (nn : Word) : Blind (callIf cc nn) :=
  (callTo_blind nn).ite (advance_blind _ _) fun _ _ _ => Iff.rfl

theorem pop16_jump_blind (n : Nat) : Blind (fun s => (pop16 s).2.jump (pop16 s).1 n) := by
  intro s joypad diag
  have h := alike_retraced s joypad diag
  simp only [h.pop16_fst]
  exact h.pop16_snd.jump _ _

theorem returnIf_blind (cc : Cond) : Blind (returnIf cc) :=
  (pop16_jump_blind 20).ite (advance_blind _ _) fun _ _ _ => Iff.rfl

theorem returnFromInterrupt_blind : Blind returnFromInterrupt := by
  intro s joypad diag
  have h := alike_retraced s joypad diag
  simp only [returnFromInterrupt, h.pop16_fst]
  exact (h.pop16_snd.mapCpu (fun c => { c with ime := true })).jump _ _

theorem jumpIf_blind (cc : Cond) (nn : Word) : Blind (jumpIf cc nn) :=
  Blind.ite .silent (advance_blind _ _) fun _ _ _ => Iff.rfl

theorem jumpRelIf_blind (cc : Cond) (e : Byte) : Blind (jumpRelIf cc e) :=
  Blind.ite .silent (advance_blind _ _) fun _ _ _ => Iff.rfl

theorem extendedOp_blind (op2 : Byte) : Blind (extendedOp op2) := by
  unfold extendedOp
  dsimp only
  generalize bitField op2 6 2 = x
  generalize operand8 (bitField op2 0 3) = o
  match x, o with
  | 0, .reg r => exact .silent
  | 0, .indHl => exact rotHl_blind _
  | 1, .reg r => exact .silent
  | 1, .indHl => exact bitTestHl_blind _
  | 2, .reg r => exact .silent
  | 2, .indHl => exact bitResetHl_blind _
  | _ + 3, .reg r => exact .silent
  | _ + 3, .indHl => exact bitSetHl_blind _

/-- Every instruction is a change of the state that does not read the traces. -/
theorem exec_blind (i : Instr) : ∃ f, (∀ s, exec i s = .next (f s)) ∧ Blind f := by
  cases i.kind with
  | ldReg dst src => exact ⟨_, exec_mkLdReg dst src, .silent⟩
  | ldImm n dst => exact ⟨_, exec_mkLdImm n dst, .silent⟩
  | ldFromHl dst => exact ⟨_, exec_mkLdFromHl dst, loadFromHl_blind dst⟩
  | ldToHl src =>
    exact ⟨_, exec_mkLdToHl src, fun s joypad diag => ((alike_retraced s joypad diag).write _ _).advance _ _⟩
  | ldIndHlN8 n =>
    exact ⟨_, exec_ldIndHlN8 n, fun s joypad diag => ((alike_retraced s joypad diag).write _ _).advance _ _⟩
  | inc r => exact ⟨_, exec_mkInc r, .silent⟩
  | dec r => exact ⟨_, exec_mkDec r, .silent⟩
  | aluReg op r => exact ⟨_, exec_mkAluReg op r, .silent⟩
  | aluHl op => exact ⟨_, exec_mkAluHl op, aluHl_blind op⟩
  | aluImm n op => exact ⟨_, exec_mkAluImm n op, .silent⟩
  | ldPair nn p => exact ⟨_, exec_mkLdPair nn p, .silent⟩
  | addHl p => exact ⟨_, exec_mkAddHl p, .silent⟩
  | incPair p => exact ⟨_, exec_mkIncPair p, .silent⟩
  | decPair p => exact ⟨_, exec_mkDecPair p, .silent⟩
  | push p => exact ⟨_, exec_mkPush p, pushPair_blind p⟩
  | pop p => exact ⟨_, exec_mkPop p, popPair_blind p⟩
  | jrIf e cc => exact ⟨_, exec_mkJr e cc, jumpRelIf_blind cc e⟩
  | jpIf nn cc => exact ⟨_, exec_mkJp nn cc, jumpIf_blind cc nn⟩
  | callIf nn cc => exact ⟨_, exec_mkCall nn cc, callIf_blind cc nn⟩
  | callN16 nn => exact ⟨_, exec_callN16 nn, callTo_blind nn⟩
  | rst y => exact ⟨_, exec_mkRst y, restart_blind y⟩
  | ret => exact ⟨_, exec_ret, pop16_jump_blind 16⟩
  | retIf cc => exact ⟨_, exec_mkRet cc, returnIf_blind cc⟩
  | reti => exact ⟨_, exec_reti, returnFromInterrupt_blind⟩
  | rotReg op r => exact ⟨_, exec_mkRotReg op r, .silent⟩
  | rotHl op => exact ⟨_, exec_mkRotHl op, rotHl_blind op⟩
  | bitReg b r => exact ⟨_, exec_mkBitReg b r, .silent⟩
  | bitHl b => exact ⟨_, exec_mkBitHl b, bitTestHl_blind b⟩
  | resReg b r => exact ⟨_, exec_mkResReg b r, .silent⟩
  | resHl b => exact ⟨_, exec_mkResHl b, bitResetHl_blind b⟩
  | setReg b r => exact ⟨_, exec_mkSetReg b r, .silent⟩
  | setHl b => exact ⟨_, exec_mkSetHl b, bitSetHl_blind b⟩
  | prefixCb op2 => exact ⟨_, exec_prefixCb op2, extendedOp_blind op2⟩
  | halt => exact ⟨_, exec_halt, haltOp_blind⟩
  | incIndHl => exact ⟨_, exec_incIndHl, incHl_blind⟩
  | decIndHl => exact ⟨_, exec_decIndHl, decHl_blind⟩
  | ldIndN16Sp nn => exact ⟨_, exec_ldIndN16Sp nn, storeSp_blind nn⟩
  | ldIndBcA | ldIndDeA | ldIndN16A | ldhIndCA | ldhIndN8A =>
    exact ⟨_, fun _ => rfl, storeA_blind (fun _ _ _ => rfl) _ _⟩
  | ldAIndBc | ldAIndDe | ldAIndN16 | ldhAIndC | ldhAIndN8 =>
    exact ⟨_, fun _ => rfl, loadA_blind (fun _ _ _ => rfl) _ _⟩
  | ldIndHlIncA | ldIndHlDecA => exact ⟨_, fun _ => rfl, storeAStep_blind _⟩
  | ldAIndHlInc | ldAIndHlDec => exact ⟨_, fun _ => rfl, loadAStep_blind _⟩
  | nop | stop | di | ei | rlca | rrca | rla | rra | daa | cpl | scf | ccf | addSpOff | ldHlSpOff | ldSpHl | jrOff
  | jpN16 | jpHl =>
    exact ⟨_, fun _ => rfl, .silent⟩
  | undefinedD3 | undefinedDb | undefinedDd | undefinedE3 | undefinedE4 | undefinedEb | undefinedEc
  | undefinedEd | undefinedF4 | undefinedFc | undefinedFd =>
    exact ⟨_, fun _ => rfl, undefinedOp_blind _⟩

/-! ## The step -/

/-- The fetch reads the same bytes (30 R143). -/
theorem Alike.fetchBytes {s t : State} (h : Alike s t) :
    (fetchBytes t).1 = (fetchBytes s).1 ∧ Alike (fetchBytes s).2 (fetchBytes t).2 := by
  have h1 := h.read s.cpu.pc
  have h2 := h1.read (s.cpu.pc + 1#16)
  simp only [Machine.fetchBytes, busRead, h.cpu_eq, h.busValue_eq, h1.busValue_eq, h2.busValue_eq]
  split
  · exact ⟨rfl, h1⟩
  · exact ⟨rfl, h2⟩
  · exact ⟨rfl, h2.read _⟩

/-- Case 4 runs the same instruction, with the halt bug armed in both or in neither (40 R174). -/
theorem normalStep_retraced (s : State) (joypad : List Byte) (diag : List Report) :
    ∃ u v, normalStep s = .next u ∧ normalStep (retraced s joypad diag) = .next v ∧ Alike u v := by
  have hbegin : Alike (beginInstruction s) (beginInstruction (retraced s joypad diag)) :=
    (alike_retraced s joypad diag).mapCpu _
  obtain ⟨hbytes, hfetch⟩ := hbegin.fetchBytes
  obtain ⟨i, hdecode⟩ := exists_decode_fetchBytes (beginInstruction s)
  obtain ⟨f, hexec, hblind⟩ := exec_blind i
  have hrun (w : State) (hw : decode (fetchBytes (beginInstruction w)).1 = .ok i) :
      normalStep w = .next (endInstruction w.cpu.haltBug (f (fetchBytes (beginInstruction w)).2)) := by
    rw [normalStep_eq (s1 := (fetchBytes (beginInstruction w)).2) rfl hw, hexec]
    rfl
  exact ⟨_, _, hrun s hdecode, hrun _ (by rw [hbytes, hdecode]), (hblind.alike hfetch).mapCpu _⟩

theorem beginDispatch_blind : Blind beginDispatch :=
  Blind.ite (g := id) .silent alike_retraced fun _ _ _ => Iff.rfl

theorem enterHandler_blind : Blind enterHandler := by
  intro s joypad diag
  unfold enterHandler
  dsimp only [retraced]
  cases highestPriority s.irq.pendingMask with
  | none | some k => exact alike_retraced _ joypad diag

theorem sequencerStep_blind : Blind sequencerStep := by
  intro s joypad diag
  have hpush (v : Byte) := (alike_retraced s joypad diag).pushByte v
  unfold sequencerStep
  dsimp only [retraced]
  cases s.irq.dispatch with
  | idle => exact beginDispatch_blind s joypad diag
  | nop0 | nop1 => exact setDispatch_blind _ s joypad diag
  | pcStore0 | pcStore1 => exact (setDispatch_blind _).alike (hpush _)
  | pcSet => exact enterHandler_blind s joypad diag

/-- The case of a CPU step does not depend on the traces (40 R170). -/
theorem cpuStep_retraced (s : State) (joypad : List Byte) (diag : List Report) :
    ∃ u v, cpuStep s = .next u ∧ cpuStep (retraced s joypad diag) = .next v ∧ Alike u v := by
  by_cases hhalted : s.cpu.halted = true
  · by_cases hpending : s.irq.pending = true
    · exact ⟨wakeStep s, wakeStep (retraced s joypad diag), (if_pos hhalted).trans (if_pos hpending),
        (if_pos hhalted).trans (if_pos hpending), alike_retraced _ joypad diag⟩
    · exact ⟨waitStep s, waitStep (retraced s joypad diag), (if_pos hhalted).trans (if_neg hpending),
        (if_pos hhalted).trans (if_neg hpending), alike_retraced _ joypad diag⟩
  · by_cases hdispatch : s.irq.dispatch ≠ .idle ∨ (s.cpu.ime = true ∧ s.irq.pending = true)
    · exact ⟨dispatchStep s, dispatchStep (retraced s joypad diag), (if_neg hhalted).trans (if_pos hdispatch),
        (if_neg hhalted).trans (if_pos hdispatch), (spend_blind 4).alike (sequencerStep_blind s joypad diag)⟩
    · obtain ⟨u, v, hu, hv, halike⟩ := normalStep_retraced s joypad diag
      exact ⟨u, v, ((if_neg hhalted).trans (if_neg hdispatch)).trans hu,
        ((if_neg hhalted).trans (if_neg hdispatch)).trans hv, halike⟩

theorem timerTick_blind : Blind timerTick :=
  Blind.ite .silent .silent fun _ _ _ => Iff.rfl

theorem timerStep_blind (n : Nat) : Blind (timerStep n) := by
  induction n with
  | zero => exact alike_retraced
  | succ n ih => exact fun s joypad diag => ih.alike (timerTick_blind s joypad diag)

theorem ppuDot_blind : Blind ppuDot :=
  Blind.ite .silent .silent fun _ _ _ => Iff.rfl

theorem ppuStep_blind (n : Nat) : Blind (ppuStep n) := by
  induction n with
  | zero => exact alike_retraced
  | succ n ih => exact fun s joypad diag => ih.alike (ppuDot_blind s joypad diag)

theorem runDevices_blind : Blind runDevices :=
  fun s joypad diag => (ppuStep_blind _).alike (timerStep_blind s.cpu.ticks s joypad diag)

/-- Settles O55: the CPU step and the devices are made of changes that do not read the traces. -/
theorem theMachineNeverReadsItsTraces : Obligations.TheMachineNeverReadsItsTraces := by
  intro s t joypad diag hstep
  obtain ⟨u, hu, rfl⟩ := step_next hstep
  obtain ⟨u', v, hu', hv, halike⟩ := cpuStep_retraced s joypad diag
  obtain rfl : u = u' := Host.Outcome.next.inj (hu.symm.trans hu')
  obtain ⟨joypad', diag', hdevices⟩ := runDevices_blind.alike halike
  exact ⟨joypad', diag', (step_eq_of_cpuStep hv).trans (congrArg _ hdevices)⟩

end Sys2Proof.Machine
end

section
/-! PROOFS. The frame driver (spec/70_reset_and_hazards.md R463, R464): system steps up to one frame's ticks, and
then the request. -/

namespace Sys2Proof.Machine

open Sys2Proof.Rules

/-! ## The loop -/

theorem runFrameFrom_of_frameBudget_le {acc : Nat} (hdone : frameBudget ≤ acc) (fuel : Nat) (s : State) :
    runFrameFrom fuel acc s = .next (hostFrameEnd s) := by
  cases fuel with
  | zero => rfl
  | succ fuel => exact if_pos hdone

theorem runFrameFrom_succ_of_step {acc : Nat} {s t : State} (hmore : ¬ frameBudget ≤ acc) (hstep : step s = .next t)
    (fuel : Nat) : runFrameFrom (fuel + 1) acc s = runFrameFrom fuel (acc + t.cpu.ticks) t := by
  rw [runFrameFrom, if_neg hmore, show systemStep s = .next t from hstep]

/-- Every state steps, with ticks that O38 bounds (40 R178, R179). -/
theorem exists_step_eq (s : State) :
    ∃ t, step s = .next t ∧ t.cpu.ticks % 4 = 0 ∧ 4 ≤ t.cpu.ticks ∧ t.cpu.ticks ≤ 24 := by
  obtain ⟨t, u, -, hstep, hcpu, hticks⟩ := noStepFails s
  exact ⟨u, hstep, by rwa [hcpu]⟩

/-- The fuel does not run out before the budget is reached, since a step takes at least 4 ticks. The count stays a
multiple of 4, so the step that reaches the budget starts at most at 70220, and it takes at most 24 ticks. -/
theorem exists_runs_runFrameFrom (fuel acc : Nat) (s : State) (hfuel : 70224 ≤ acc + 4 * fuel)
    (hmod : acc % 4 = 0) (hle : acc ≤ 70244) :
    ∃ n u, Runs s n u ∧ 70224 ≤ acc + n ∧ acc + n ≤ 70244 ∧ runFrameFrom fuel acc s = .next (hostFrameEnd u) := by
  induction fuel generalizing acc s with
  | zero => exact ⟨0, s, .done s, hfuel, hle, rfl⟩
  | succ fuel ih =>
    by_cases hdone : 70224 ≤ acc
    · exact ⟨0, s, .done s, hdone, hle, runFrameFrom_of_frameBudget_le hdone _ s⟩
    · obtain ⟨t, hstep, hticksMod, hticksMin, hticksMax⟩ := exists_step_eq s
      obtain ⟨n, u, hruns, hmin, hmax, hframe⟩ :=
        ih (acc + t.cpu.ticks) t (by omega) (by omega) (by omega)
      exact ⟨t.cpu.ticks + n, u, .step hstep hruns, by omega, by omega,
        (runFrameFrom_succ_of_step hdone hstep fuel).trans hframe⟩

/-- Settles O56: the loop from a count of 0, with fuel for a quarter of the budget. -/
theorem runFrameTakesOneFrameOfTicks : Obligations.RunFrameTakesOneFrameOfTicks := by
  intro s
  obtain ⟨n, u, hruns, hmin, hmax, hframe⟩ :=
    exists_runs_runFrameFrom 17556 0 s (by decide) (by decide) (by decide)
  rw [Nat.zero_add] at hmin hmax
  exact ⟨n, u, hruns, hmin, hmax, hframe⟩

end Sys2Proof.Machine
end
